-- ==== Sys2Proof/Word.lean ====
section
/-! DEFINITION. The two word types of the machine (00_scope.md R4, R5). -/

namespace Sys2Proof

/-- A `u8`: a register, a memory byte, an opcode, an operand byte (00_scope.md R5). -/
abbrev Byte := BitVec 8

/-- A `u16`: an address or the program counter (00_scope.md R5). -/
abbrev Word := BitVec 16

end Sys2Proof
end

