-- ==== Sys2Proof/Machine/Bits.lean ====
section
/-! DEFINITION. The byte-order, extension and page helpers of 00_scope.md R5 and R9. -/

namespace Sys2Proof

/-- `w[15:8]` (00_scope.md R5); also the page of the address `w` (R9). -/
def hiByte (w : Word) : Byte := w.extractLsb' 8 8

/-- `w[7:0]` (00_scope.md R5). -/
def loByte (w : Word) : Byte := w.extractLsb' 0 8

/-- The concatenation `hi:lo` (00_scope.md R5). -/
def mkWord (hi lo : Byte) : Word := hi ++ lo

/-- `zext_16(v)` (00_scope.md R5). -/
def zext16 (v : Byte) : Word := v.setWidth 16

/-- `sext_8(v)` as a 16-bit two's-complement number, ready to be added modulo 65536 (00_scope.md R5). -/
def sext16 (v : Byte) : Word := v.signExtend 16

/-- Whether adding an index to `base` changed its high byte, with `ea` the sum: "an address computation changes
the high byte" (00_scope.md R9). -/
def pageCrossed (base ea : Word) : Bool := hiByte ea != hiByte base

end Sys2Proof
end

