-- ==== Sys2Proof/Syntax.lean ====
section
/-! DEFINITION. The instructions as data: the mnemonics, the operand forms and `Instr`, one constructor per
implemented row of spec/opcode_table.json and one for the operation ILL that the other 105 rows share
(30_encoding.md R73 to R77, 46_system.md R241; log entry 6). -/

namespace Sys2Proof

/-- The 56 mnemonics of 30_encoding.md R75, and ILL (R81). -/
inductive Mnemonic where
  | adc | sbc | cmp | cpx | cpy | inc | inx | iny
  | dec | dex | dey | and | ora | eor | bit | asl
  | lsr | rol | ror | bcc | bcs | beq | bne | bmi
  | bpl | bvc | bvs | jmp | jsr | rts | lda | ldx
  | ldy | sta | stx | sty | tax | tay | txa | tya
  | tsx | txs | pha | php | pla | plp | brk | rti
  | nop | clc | sec | cli | sei | cld | sed | clv
  | ill
deriving DecidableEq, Repr

/-- A mode that yields an effective address, with its operand bytes (30_encoding.md R71, R72); one constructor
for each of ZP, ZPX, ZPY, ABS, ABX, ABY, IND, IZX, IZY. -/
inductive AddrMode where
  | zp (z : Byte)
  | zpx (z : Byte)
  | zpy (z : Byte)
  | abs (addr : Word)
  | abx (base : Word)
  | aby (base : Word)
  | ind (ptr : Word)
  | izx (z : Byte)
  | izy (z : Byte)
deriving DecidableEq, Repr

/-- The format of a row with its operand bytes: the mode tags of 30_encoding.md R71, and ILL with the opcode
byte that R241 reports. -/
inductive Form where
  | imp
  | acc
  | imm (v : Byte)
  | mem (m : AddrMode)
  | rel (off : Byte)
  | ill (opcode : Byte)
deriving DecidableEq, Repr

/-- Bytes of an instruction whose mode yields an address (30_encoding.md R71). -/
def AddrMode.length : AddrMode → Nat
  | .zp _ => 2
  | .zpx _ => 2
  | .zpy _ => 2
  | .abs _ => 3
  | .abx _ => 3
  | .aby _ => 3
  | .ind _ => 3
  | .izx _ => 2
  | .izy _ => 2

/-- Bytes of an instruction of this form: "the length is a function of the addressing mode alone"
(30_encoding.md R70, R71). -/
def Form.length : Form → Nat
  | .imp => 1
  | .acc => 1
  | .imm _ => 2
  | .mem m => m.length
  | .rel _ => 2
  | .ill _ => 1

/-- What an instruction that reads a value may name: an immediate byte or a memory operand
(40_step_and_addressing.md R119). -/
inductive Source where
  | imm (v : Byte)
  | mem (m : AddrMode)
deriving DecidableEq, Repr

/-- What a read-modify-write instruction may name: the accumulator or a memory operand
(40_step_and_addressing.md R107, R119). -/
inductive Place where
  | acc
  | mem (m : AddrMode)
deriving DecidableEq, Repr

/-- The form of a source operand. -/
def Source.form : Source → Form
  | .imm v => .imm v
  | .mem m => .mem m

/-- The form of a place. -/
def Place.form : Place → Form
  | .acc => .acc
  | .mem m => .mem m

/-- The instructions. Each constructor's comment gives its opcode, its assembler form and its rule. -/
inductive Instr where
  /-- 69 `ADC #$nn`, R141, IMM R108. -/
  | adcImm (v : Byte)
  /-- 65 `ADC $nn`, R141, ZP R109. -/
  | adcZp (z : Byte)
  /-- 75 `ADC $nn,X`, R141, ZPX R110. -/
  | adcZpx (z : Byte)
  /-- 6D `ADC $nnnn`, R141, ABS R112. -/
  | adcAbs (addr : Word)
  /-- 7D `ADC $nnnn,X`, R141, ABX R113. -/
  | adcAbx (base : Word)
  /-- 79 `ADC $nnnn,Y`, R141, ABY R114. -/
  | adcAby (base : Word)
  /-- 61 `ADC ($nn,X)`, R141, IZX R116. -/
  | adcIzx (z : Byte)
  /-- 71 `ADC ($nn),Y`, R141, IZY R117. -/
  | adcIzy (z : Byte)
  /-- E9 `SBC #$nn`, R142, IMM R108. -/
  | sbcImm (v : Byte)
  /-- E5 `SBC $nn`, R142, ZP R109. -/
  | sbcZp (z : Byte)
  /-- F5 `SBC $nn,X`, R142, ZPX R110. -/
  | sbcZpx (z : Byte)
  /-- ED `SBC $nnnn`, R142, ABS R112. -/
  | sbcAbs (addr : Word)
  /-- FD `SBC $nnnn,X`, R142, ABX R113. -/
  | sbcAbx (base : Word)
  /-- F9 `SBC $nnnn,Y`, R142, ABY R114. -/
  | sbcAby (base : Word)
  /-- E1 `SBC ($nn,X)`, R142, IZX R116. -/
  | sbcIzx (z : Byte)
  /-- F1 `SBC ($nn),Y`, R142, IZY R117. -/
  | sbcIzy (z : Byte)
  /-- C9 `CMP #$nn`, R143, IMM R108. -/
  | cmpImm (v : Byte)
  /-- C5 `CMP $nn`, R143, ZP R109. -/
  | cmpZp (z : Byte)
  /-- D5 `CMP $nn,X`, R143, ZPX R110. -/
  | cmpZpx (z : Byte)
  /-- CD `CMP $nnnn`, R143, ABS R112. -/
  | cmpAbs (addr : Word)
  /-- DD `CMP $nnnn,X`, R143, ABX R113. -/
  | cmpAbx (base : Word)
  /-- D9 `CMP $nnnn,Y`, R143, ABY R114. -/
  | cmpAby (base : Word)
  /-- C1 `CMP ($nn,X)`, R143, IZX R116. -/
  | cmpIzx (z : Byte)
  /-- D1 `CMP ($nn),Y`, R143, IZY R117. -/
  | cmpIzy (z : Byte)
  /-- E0 `CPX #$nn`, R144, IMM R108. -/
  | cpxImm (v : Byte)
  /-- E4 `CPX $nn`, R144, ZP R109. -/
  | cpxZp (z : Byte)
  /-- EC `CPX $nnnn`, R144, ABS R112. -/
  | cpxAbs (addr : Word)
  /-- C0 `CPY #$nn`, R145, IMM R108. -/
  | cpyImm (v : Byte)
  /-- C4 `CPY $nn`, R145, ZP R109. -/
  | cpyZp (z : Byte)
  /-- CC `CPY $nnnn`, R145, ABS R112. -/
  | cpyAbs (addr : Word)
  /-- E6 `INC $nn`, R146, ZP R109. -/
  | incZp (z : Byte)
  /-- F6 `INC $nn,X`, R146, ZPX R110. -/
  | incZpx (z : Byte)
  /-- EE `INC $nnnn`, R146, ABS R112. -/
  | incAbs (addr : Word)
  /-- FE `INC $nnnn,X`, R146, ABX R113. -/
  | incAbx (base : Word)
  /-- E8 `INX`, R147, IMP R106. -/
  | inx
  /-- C8 `INY`, R148, IMP R106. -/
  | iny
  /-- C6 `DEC $nn`, R149, ZP R109. -/
  | decZp (z : Byte)
  /-- D6 `DEC $nn,X`, R149, ZPX R110. -/
  | decZpx (z : Byte)
  /-- CE `DEC $nnnn`, R149, ABS R112. -/
  | decAbs (addr : Word)
  /-- DE `DEC $nnnn,X`, R149, ABX R113. -/
  | decAbx (base : Word)
  /-- CA `DEX`, R150, IMP R106. -/
  | dex
  /-- 88 `DEY`, R151, IMP R106. -/
  | dey
  /-- 29 `AND #$nn`, R161, IMM R108. -/
  | andImm (v : Byte)
  /-- 25 `AND $nn`, R161, ZP R109. -/
  | andZp (z : Byte)
  /-- 35 `AND $nn,X`, R161, ZPX R110. -/
  | andZpx (z : Byte)
  /-- 2D `AND $nnnn`, R161, ABS R112. -/
  | andAbs (addr : Word)
  /-- 3D `AND $nnnn,X`, R161, ABX R113. -/
  | andAbx (base : Word)
  /-- 39 `AND $nnnn,Y`, R161, ABY R114. -/
  | andAby (base : Word)
  /-- 21 `AND ($nn,X)`, R161, IZX R116. -/
  | andIzx (z : Byte)
  /-- 31 `AND ($nn),Y`, R161, IZY R117. -/
  | andIzy (z : Byte)
  /-- 09 `ORA #$nn`, R162, IMM R108. -/
  | oraImm (v : Byte)
  /-- 05 `ORA $nn`, R162, ZP R109. -/
  | oraZp (z : Byte)
  /-- 15 `ORA $nn,X`, R162, ZPX R110. -/
  | oraZpx (z : Byte)
  /-- 0D `ORA $nnnn`, R162, ABS R112. -/
  | oraAbs (addr : Word)
  /-- 1D `ORA $nnnn,X`, R162, ABX R113. -/
  | oraAbx (base : Word)
  /-- 19 `ORA $nnnn,Y`, R162, ABY R114. -/
  | oraAby (base : Word)
  /-- 01 `ORA ($nn,X)`, R162, IZX R116. -/
  | oraIzx (z : Byte)
  /-- 11 `ORA ($nn),Y`, R162, IZY R117. -/
  | oraIzy (z : Byte)
  /-- 49 `EOR #$nn`, R163, IMM R108. -/
  | eorImm (v : Byte)
  /-- 45 `EOR $nn`, R163, ZP R109. -/
  | eorZp (z : Byte)
  /-- 55 `EOR $nn,X`, R163, ZPX R110. -/
  | eorZpx (z : Byte)
  /-- 4D `EOR $nnnn`, R163, ABS R112. -/
  | eorAbs (addr : Word)
  /-- 5D `EOR $nnnn,X`, R163, ABX R113. -/
  | eorAbx (base : Word)
  /-- 59 `EOR $nnnn,Y`, R163, ABY R114. -/
  | eorAby (base : Word)
  /-- 41 `EOR ($nn,X)`, R163, IZX R116. -/
  | eorIzx (z : Byte)
  /-- 51 `EOR ($nn),Y`, R163, IZY R117. -/
  | eorIzy (z : Byte)
  /-- 24 `BIT $nn`, R164, ZP R109. -/
  | bitZp (z : Byte)
  /-- 2C `BIT $nnnn`, R164, ABS R112. -/
  | bitAbs (addr : Word)
  /-- 0A `ASL A`, R165, ACC R107. -/
  | aslAcc
  /-- 06 `ASL $nn`, R165, ZP R109. -/
  | aslZp (z : Byte)
  /-- 16 `ASL $nn,X`, R165, ZPX R110. -/
  | aslZpx (z : Byte)
  /-- 0E `ASL $nnnn`, R165, ABS R112. -/
  | aslAbs (addr : Word)
  /-- 1E `ASL $nnnn,X`, R165, ABX R113. -/
  | aslAbx (base : Word)
  /-- 4A `LSR A`, R166, ACC R107. -/
  | lsrAcc
  /-- 46 `LSR $nn`, R166, ZP R109. -/
  | lsrZp (z : Byte)
  /-- 56 `LSR $nn,X`, R166, ZPX R110. -/
  | lsrZpx (z : Byte)
  /-- 4E `LSR $nnnn`, R166, ABS R112. -/
  | lsrAbs (addr : Word)
  /-- 5E `LSR $nnnn,X`, R166, ABX R113. -/
  | lsrAbx (base : Word)
  /-- 2A `ROL A`, R167, ACC R107. -/
  | rolAcc
  /-- 26 `ROL $nn`, R167, ZP R109. -/
  | rolZp (z : Byte)
  /-- 36 `ROL $nn,X`, R167, ZPX R110. -/
  | rolZpx (z : Byte)
  /-- 2E `ROL $nnnn`, R167, ABS R112. -/
  | rolAbs (addr : Word)
  /-- 3E `ROL $nnnn,X`, R167, ABX R113. -/
  | rolAbx (base : Word)
  /-- 6A `ROR A`, R168, ACC R107. -/
  | rorAcc
  /-- 66 `ROR $nn`, R168, ZP R109. -/
  | rorZp (z : Byte)
  /-- 76 `ROR $nn,X`, R168, ZPX R110. -/
  | rorZpx (z : Byte)
  /-- 6E `ROR $nnnn`, R168, ABS R112. -/
  | rorAbs (addr : Word)
  /-- 7E `ROR $nnnn,X`, R168, ABX R113. -/
  | rorAbx (base : Word)
  /-- 90 `BCC label`, R181, REL R118. -/
  | bcc (off : Byte)
  /-- B0 `BCS label`, R182, REL R118. -/
  | bcs (off : Byte)
  /-- F0 `BEQ label`, R183, REL R118. -/
  | beq (off : Byte)
  /-- D0 `BNE label`, R184, REL R118. -/
  | bne (off : Byte)
  /-- 30 `BMI label`, R185, REL R118. -/
  | bmi (off : Byte)
  /-- 10 `BPL label`, R186, REL R118. -/
  | bpl (off : Byte)
  /-- 50 `BVC label`, R187, REL R118. -/
  | bvc (off : Byte)
  /-- 70 `BVS label`, R188, REL R118. -/
  | bvs (off : Byte)
  /-- 4C `JMP $nnnn`, R189, ABS R112. -/
  | jmpAbs (addr : Word)
  /-- 6C `JMP ($nnnn)`, R190, IND R115. -/
  | jmpInd (ptr : Word)
  /-- 20 `JSR $nnnn`, R191, ABS R112. -/
  | jsr (addr : Word)
  /-- 60 `RTS`, R192, IMP R106. -/
  | rts
  /-- A9 `LDA #$nn`, R201, IMM R108. -/
  | ldaImm (v : Byte)
  /-- A5 `LDA $nn`, R201, ZP R109. -/
  | ldaZp (z : Byte)
  /-- B5 `LDA $nn,X`, R201, ZPX R110. -/
  | ldaZpx (z : Byte)
  /-- AD `LDA $nnnn`, R201, ABS R112. -/
  | ldaAbs (addr : Word)
  /-- BD `LDA $nnnn,X`, R201, ABX R113. -/
  | ldaAbx (base : Word)
  /-- B9 `LDA $nnnn,Y`, R201, ABY R114. -/
  | ldaAby (base : Word)
  /-- A1 `LDA ($nn,X)`, R201, IZX R116. -/
  | ldaIzx (z : Byte)
  /-- B1 `LDA ($nn),Y`, R201, IZY R117. -/
  | ldaIzy (z : Byte)
  /-- A2 `LDX #$nn`, R202, IMM R108. -/
  | ldxImm (v : Byte)
  /-- A6 `LDX $nn`, R202, ZP R109. -/
  | ldxZp (z : Byte)
  /-- B6 `LDX $nn,Y`, R202, ZPY R111. -/
  | ldxZpy (z : Byte)
  /-- AE `LDX $nnnn`, R202, ABS R112. -/
  | ldxAbs (addr : Word)
  /-- BE `LDX $nnnn,Y`, R202, ABY R114. -/
  | ldxAby (base : Word)
  /-- A0 `LDY #$nn`, R203, IMM R108. -/
  | ldyImm (v : Byte)
  /-- A4 `LDY $nn`, R203, ZP R109. -/
  | ldyZp (z : Byte)
  /-- B4 `LDY $nn,X`, R203, ZPX R110. -/
  | ldyZpx (z : Byte)
  /-- AC `LDY $nnnn`, R203, ABS R112. -/
  | ldyAbs (addr : Word)
  /-- BC `LDY $nnnn,X`, R203, ABX R113. -/
  | ldyAbx (base : Word)
  /-- 85 `STA $nn`, R204, ZP R109. -/
  | staZp (z : Byte)
  /-- 95 `STA $nn,X`, R204, ZPX R110. -/
  | staZpx (z : Byte)
  /-- 8D `STA $nnnn`, R204, ABS R112. -/
  | staAbs (addr : Word)
  /-- 9D `STA $nnnn,X`, R204, ABX R113. -/
  | staAbx (base : Word)
  /-- 99 `STA $nnnn,Y`, R204, ABY R114. -/
  | staAby (base : Word)
  /-- 81 `STA ($nn,X)`, R204, IZX R116. -/
  | staIzx (z : Byte)
  /-- 91 `STA ($nn),Y`, R204, IZY R117. -/
  | staIzy (z : Byte)
  /-- 86 `STX $nn`, R205, ZP R109. -/
  | stxZp (z : Byte)
  /-- 96 `STX $nn,Y`, R205, ZPY R111. -/
  | stxZpy (z : Byte)
  /-- 8E `STX $nnnn`, R205, ABS R112. -/
  | stxAbs (addr : Word)
  /-- 84 `STY $nn`, R206, ZP R109. -/
  | styZp (z : Byte)
  /-- 94 `STY $nn,X`, R206, ZPX R110. -/
  | styZpx (z : Byte)
  /-- 8C `STY $nnnn`, R206, ABS R112. -/
  | styAbs (addr : Word)
  /-- AA `TAX`, R207, IMP R106. -/
  | tax
  /-- A8 `TAY`, R208, IMP R106. -/
  | tay
  /-- 8A `TXA`, R209, IMP R106. -/
  | txa
  /-- 98 `TYA`, R210, IMP R106. -/
  | tya
  /-- BA `TSX`, R211, IMP R106. -/
  | tsx
  /-- 9A `TXS`, R212, IMP R106. -/
  | txs
  /-- 48 `PHA`, R221, IMP R106. -/
  | pha
  /-- 08 `PHP`, R222, IMP R106. -/
  | php
  /-- 68 `PLA`, R223, IMP R106. -/
  | pla
  /-- 28 `PLP`, R224, IMP R106. -/
  | plp
  /-- 00 `BRK`, R231, IMP R106. -/
  | brk
  /-- 40 `RTI`, R232, IMP R106. -/
  | rti
  /-- EA `NOP`, R233, IMP R106. -/
  | nop
  /-- 18 `CLC`, R234, IMP R106. -/
  | clc
  /-- 38 `SEC`, R235, IMP R106. -/
  | sec
  /-- 58 `CLI`, R236, IMP R106. -/
  | cli
  /-- 78 `SEI`, R237, IMP R106. -/
  | sei
  /-- D8 `CLD`, R238, IMP R106. -/
  | cld
  /-- F8 `SED`, R239, IMP R106. -/
  | sed
  /-- B8 `CLV`, R240, IMP R106. -/
  | clv
  /-- One of the 105 unimplemented opcode values of R77, R241. -/
  | ill (opcode : Byte)
deriving DecidableEq, Repr

/-- The mnemonic of an instruction (30_encoding.md R75). -/
def Instr.mnemonic : Instr → Mnemonic
  | .adcImm _ => .adc
  | .adcZp _ => .adc
  | .adcZpx _ => .adc
  | .adcAbs _ => .adc
  | .adcAbx _ => .adc
  | .adcAby _ => .adc
  | .adcIzx _ => .adc
  | .adcIzy _ => .adc
  | .sbcImm _ => .sbc
  | .sbcZp _ => .sbc
  | .sbcZpx _ => .sbc
  | .sbcAbs _ => .sbc
  | .sbcAbx _ => .sbc
  | .sbcAby _ => .sbc
  | .sbcIzx _ => .sbc
  | .sbcIzy _ => .sbc
  | .cmpImm _ => .cmp
  | .cmpZp _ => .cmp
  | .cmpZpx _ => .cmp
  | .cmpAbs _ => .cmp
  | .cmpAbx _ => .cmp
  | .cmpAby _ => .cmp
  | .cmpIzx _ => .cmp
  | .cmpIzy _ => .cmp
  | .cpxImm _ => .cpx
  | .cpxZp _ => .cpx
  | .cpxAbs _ => .cpx
  | .cpyImm _ => .cpy
  | .cpyZp _ => .cpy
  | .cpyAbs _ => .cpy
  | .incZp _ => .inc
  | .incZpx _ => .inc
  | .incAbs _ => .inc
  | .incAbx _ => .inc
  | .inx => .inx
  | .iny => .iny
  | .decZp _ => .dec
  | .decZpx _ => .dec
  | .decAbs _ => .dec
  | .decAbx _ => .dec
  | .dex => .dex
  | .dey => .dey
  | .andImm _ => .and
  | .andZp _ => .and
  | .andZpx _ => .and
  | .andAbs _ => .and
  | .andAbx _ => .and
  | .andAby _ => .and
  | .andIzx _ => .and
  | .andIzy _ => .and
  | .oraImm _ => .ora
  | .oraZp _ => .ora
  | .oraZpx _ => .ora
  | .oraAbs _ => .ora
  | .oraAbx _ => .ora
  | .oraAby _ => .ora
  | .oraIzx _ => .ora
  | .oraIzy _ => .ora
  | .eorImm _ => .eor
  | .eorZp _ => .eor
  | .eorZpx _ => .eor
  | .eorAbs _ => .eor
  | .eorAbx _ => .eor
  | .eorAby _ => .eor
  | .eorIzx _ => .eor
  | .eorIzy _ => .eor
  | .bitZp _ => .bit
  | .bitAbs _ => .bit
  | .aslAcc => .asl
  | .aslZp _ => .asl
  | .aslZpx _ => .asl
  | .aslAbs _ => .asl
  | .aslAbx _ => .asl
  | .lsrAcc => .lsr
  | .lsrZp _ => .lsr
  | .lsrZpx _ => .lsr
  | .lsrAbs _ => .lsr
  | .lsrAbx _ => .lsr
  | .rolAcc => .rol
  | .rolZp _ => .rol
  | .rolZpx _ => .rol
  | .rolAbs _ => .rol
  | .rolAbx _ => .rol
  | .rorAcc => .ror
  | .rorZp _ => .ror
  | .rorZpx _ => .ror
  | .rorAbs _ => .ror
  | .rorAbx _ => .ror
  | .bcc _ => .bcc
  | .bcs _ => .bcs
  | .beq _ => .beq
  | .bne _ => .bne
  | .bmi _ => .bmi
  | .bpl _ => .bpl
  | .bvc _ => .bvc
  | .bvs _ => .bvs
  | .jmpAbs _ => .jmp
  | .jmpInd _ => .jmp
  | .jsr _ => .jsr
  | .rts => .rts
  | .ldaImm _ => .lda
  | .ldaZp _ => .lda
  | .ldaZpx _ => .lda
  | .ldaAbs _ => .lda
  | .ldaAbx _ => .lda
  | .ldaAby _ => .lda
  | .ldaIzx _ => .lda
  | .ldaIzy _ => .lda
  | .ldxImm _ => .ldx
  | .ldxZp _ => .ldx
  | .ldxZpy _ => .ldx
  | .ldxAbs _ => .ldx
  | .ldxAby _ => .ldx
  | .ldyImm _ => .ldy
  | .ldyZp _ => .ldy
  | .ldyZpx _ => .ldy
  | .ldyAbs _ => .ldy
  | .ldyAbx _ => .ldy
  | .staZp _ => .sta
  | .staZpx _ => .sta
  | .staAbs _ => .sta
  | .staAbx _ => .sta
  | .staAby _ => .sta
  | .staIzx _ => .sta
  | .staIzy _ => .sta
  | .stxZp _ => .stx
  | .stxZpy _ => .stx
  | .stxAbs _ => .stx
  | .styZp _ => .sty
  | .styZpx _ => .sty
  | .styAbs _ => .sty
  | .tax => .tax
  | .tay => .tay
  | .txa => .txa
  | .tya => .tya
  | .tsx => .tsx
  | .txs => .txs
  | .pha => .pha
  | .php => .php
  | .pla => .pla
  | .plp => .plp
  | .brk => .brk
  | .rti => .rti
  | .nop => .nop
  | .clc => .clc
  | .sec => .sec
  | .cli => .cli
  | .sei => .sei
  | .cld => .cld
  | .sed => .sed
  | .clv => .clv
  | .ill _ => .ill

/-- The format of an instruction and its operand bytes (30_encoding.md R71, R75). -/
def Instr.form : Instr → Form
  | .adcImm v => .imm v
  | .adcZp z => .mem (.zp z)
  | .adcZpx z => .mem (.zpx z)
  | .adcAbs addr => .mem (.abs addr)
  | .adcAbx base => .mem (.abx base)
  | .adcAby base => .mem (.aby base)
  | .adcIzx z => .mem (.izx z)
  | .adcIzy z => .mem (.izy z)
  | .sbcImm v => .imm v
  | .sbcZp z => .mem (.zp z)
  | .sbcZpx z => .mem (.zpx z)
  | .sbcAbs addr => .mem (.abs addr)
  | .sbcAbx base => .mem (.abx base)
  | .sbcAby base => .mem (.aby base)
  | .sbcIzx z => .mem (.izx z)
  | .sbcIzy z => .mem (.izy z)
  | .cmpImm v => .imm v
  | .cmpZp z => .mem (.zp z)
  | .cmpZpx z => .mem (.zpx z)
  | .cmpAbs addr => .mem (.abs addr)
  | .cmpAbx base => .mem (.abx base)
  | .cmpAby base => .mem (.aby base)
  | .cmpIzx z => .mem (.izx z)
  | .cmpIzy z => .mem (.izy z)
  | .cpxImm v => .imm v
  | .cpxZp z => .mem (.zp z)
  | .cpxAbs addr => .mem (.abs addr)
  | .cpyImm v => .imm v
  | .cpyZp z => .mem (.zp z)
  | .cpyAbs addr => .mem (.abs addr)
  | .incZp z => .mem (.zp z)
  | .incZpx z => .mem (.zpx z)
  | .incAbs addr => .mem (.abs addr)
  | .incAbx base => .mem (.abx base)
  | .inx => .imp
  | .iny => .imp
  | .decZp z => .mem (.zp z)
  | .decZpx z => .mem (.zpx z)
  | .decAbs addr => .mem (.abs addr)
  | .decAbx base => .mem (.abx base)
  | .dex => .imp
  | .dey => .imp
  | .andImm v => .imm v
  | .andZp z => .mem (.zp z)
  | .andZpx z => .mem (.zpx z)
  | .andAbs addr => .mem (.abs addr)
  | .andAbx base => .mem (.abx base)
  | .andAby base => .mem (.aby base)
  | .andIzx z => .mem (.izx z)
  | .andIzy z => .mem (.izy z)
  | .oraImm v => .imm v
  | .oraZp z => .mem (.zp z)
  | .oraZpx z => .mem (.zpx z)
  | .oraAbs addr => .mem (.abs addr)
  | .oraAbx base => .mem (.abx base)
  | .oraAby base => .mem (.aby base)
  | .oraIzx z => .mem (.izx z)
  | .oraIzy z => .mem (.izy z)
  | .eorImm v => .imm v
  | .eorZp z => .mem (.zp z)
  | .eorZpx z => .mem (.zpx z)
  | .eorAbs addr => .mem (.abs addr)
  | .eorAbx base => .mem (.abx base)
  | .eorAby base => .mem (.aby base)
  | .eorIzx z => .mem (.izx z)
  | .eorIzy z => .mem (.izy z)
  | .bitZp z => .mem (.zp z)
  | .bitAbs addr => .mem (.abs addr)
  | .aslAcc => .acc
  | .aslZp z => .mem (.zp z)
  | .aslZpx z => .mem (.zpx z)
  | .aslAbs addr => .mem (.abs addr)
  | .aslAbx base => .mem (.abx base)
  | .lsrAcc => .acc
  | .lsrZp z => .mem (.zp z)
  | .lsrZpx z => .mem (.zpx z)
  | .lsrAbs addr => .mem (.abs addr)
  | .lsrAbx base => .mem (.abx base)
  | .rolAcc => .acc
  | .rolZp z => .mem (.zp z)
  | .rolZpx z => .mem (.zpx z)
  | .rolAbs addr => .mem (.abs addr)
  | .rolAbx base => .mem (.abx base)
  | .rorAcc => .acc
  | .rorZp z => .mem (.zp z)
  | .rorZpx z => .mem (.zpx z)
  | .rorAbs addr => .mem (.abs addr)
  | .rorAbx base => .mem (.abx base)
  | .bcc off => .rel off
  | .bcs off => .rel off
  | .beq off => .rel off
  | .bne off => .rel off
  | .bmi off => .rel off
  | .bpl off => .rel off
  | .bvc off => .rel off
  | .bvs off => .rel off
  | .jmpAbs addr => .mem (.abs addr)
  | .jmpInd ptr => .mem (.ind ptr)
  | .jsr addr => .mem (.abs addr)
  | .rts => .imp
  | .ldaImm v => .imm v
  | .ldaZp z => .mem (.zp z)
  | .ldaZpx z => .mem (.zpx z)
  | .ldaAbs addr => .mem (.abs addr)
  | .ldaAbx base => .mem (.abx base)
  | .ldaAby base => .mem (.aby base)
  | .ldaIzx z => .mem (.izx z)
  | .ldaIzy z => .mem (.izy z)
  | .ldxImm v => .imm v
  | .ldxZp z => .mem (.zp z)
  | .ldxZpy z => .mem (.zpy z)
  | .ldxAbs addr => .mem (.abs addr)
  | .ldxAby base => .mem (.aby base)
  | .ldyImm v => .imm v
  | .ldyZp z => .mem (.zp z)
  | .ldyZpx z => .mem (.zpx z)
  | .ldyAbs addr => .mem (.abs addr)
  | .ldyAbx base => .mem (.abx base)
  | .staZp z => .mem (.zp z)
  | .staZpx z => .mem (.zpx z)
  | .staAbs addr => .mem (.abs addr)
  | .staAbx base => .mem (.abx base)
  | .staAby base => .mem (.aby base)
  | .staIzx z => .mem (.izx z)
  | .staIzy z => .mem (.izy z)
  | .stxZp z => .mem (.zp z)
  | .stxZpy z => .mem (.zpy z)
  | .stxAbs addr => .mem (.abs addr)
  | .styZp z => .mem (.zp z)
  | .styZpx z => .mem (.zpx z)
  | .styAbs addr => .mem (.abs addr)
  | .tax => .imp
  | .tay => .imp
  | .txa => .imp
  | .tya => .imp
  | .tsx => .imp
  | .txs => .imp
  | .pha => .imp
  | .php => .imp
  | .pla => .imp
  | .plp => .imp
  | .brk => .imp
  | .rti => .imp
  | .nop => .imp
  | .clc => .imp
  | .sec => .imp
  | .cli => .imp
  | .sei => .imp
  | .cld => .imp
  | .sed => .imp
  | .clv => .imp
  | .ill opcode => .ill opcode

/-- Bytes of an instruction (30_encoding.md R70). -/
def Instr.length (i : Instr) : Nat := i.form.length

end Sys2Proof
end

