-- ==== Sys2Proof/Decode.lean ====
section
/-! DEFINITION. The decoder, from the 16 by 16 opcode map of 30_encoding.md R74, and after it the encoder, from
the listing by mnemonic of R75. The decoder is total on any byte: an unimplemented opcode is an entry of the
table and decodes to `Instr.ill` (R73). -/

namespace Sys2Proof

/-- One cell of the opcode map: unimplemented, or the instruction of an opcode with no, one or two operand
bytes (30_encoding.md R70, R74). -/
inductive Cell where
  | ill
  | one (i : Instr)
  | two (f : Byte → Instr)
  | three (f : Word → Instr)

/-- Row 0x of the map of 30_encoding.md R74. -/
def opcodeRow0 : List Cell :=
  [.one .brk, .two .oraIzx, .ill, .ill, .ill, .two .oraZp, .two .aslZp, .ill,
   .one .php, .two .oraImm, .one .aslAcc, .ill, .ill, .three .oraAbs, .three .aslAbs, .ill]

/-- Row 1x of the map of 30_encoding.md R74. -/
def opcodeRow1 : List Cell :=
  [.two .bpl, .two .oraIzy, .ill, .ill, .ill, .two .oraZpx, .two .aslZpx, .ill,
   .one .clc, .three .oraAby, .ill, .ill, .ill, .three .oraAbx, .three .aslAbx, .ill]

/-- Row 2x of the map of 30_encoding.md R74. -/
def opcodeRow2 : List Cell :=
  [.three .jsr, .two .andIzx, .ill, .ill, .two .bitZp, .two .andZp, .two .rolZp, .ill,
   .one .plp, .two .andImm, .one .rolAcc, .ill, .three .bitAbs, .three .andAbs, .three .rolAbs, .ill]

/-- Row 3x of the map of 30_encoding.md R74. -/
def opcodeRow3 : List Cell :=
  [.two .bmi, .two .andIzy, .ill, .ill, .ill, .two .andZpx, .two .rolZpx, .ill,
   .one .sec, .three .andAby, .ill, .ill, .ill, .three .andAbx, .three .rolAbx, .ill]

/-- Row 4x of the map of 30_encoding.md R74. -/
def opcodeRow4 : List Cell :=
  [.one .rti, .two .eorIzx, .ill, .ill, .ill, .two .eorZp, .two .lsrZp, .ill,
   .one .pha, .two .eorImm, .one .lsrAcc, .ill, .three .jmpAbs, .three .eorAbs, .three .lsrAbs, .ill]

/-- Row 5x of the map of 30_encoding.md R74. -/
def opcodeRow5 : List Cell :=
  [.two .bvc, .two .eorIzy, .ill, .ill, .ill, .two .eorZpx, .two .lsrZpx, .ill,
   .one .cli, .three .eorAby, .ill, .ill, .ill, .three .eorAbx, .three .lsrAbx, .ill]

/-- Row 6x of the map of 30_encoding.md R74. -/
def opcodeRow6 : List Cell :=
  [.one .rts, .two .adcIzx, .ill, .ill, .ill, .two .adcZp, .two .rorZp, .ill,
   .one .pla, .two .adcImm, .one .rorAcc, .ill, .three .jmpInd, .three .adcAbs, .three .rorAbs, .ill]

/-- Row 7x of the map of 30_encoding.md R74. -/
def opcodeRow7 : List Cell :=
  [.two .bvs, .two .adcIzy, .ill, .ill, .ill, .two .adcZpx, .two .rorZpx, .ill,
   .one .sei, .three .adcAby, .ill, .ill, .ill, .three .adcAbx, .three .rorAbx, .ill]

/-- Row 8x of the map of 30_encoding.md R74. -/
def opcodeRow8 : List Cell :=
  [.ill, .two .staIzx, .ill, .ill, .two .styZp, .two .staZp, .two .stxZp, .ill,
   .one .dey, .ill, .one .txa, .ill, .three .styAbs, .three .staAbs, .three .stxAbs, .ill]

/-- Row 9x of the map of 30_encoding.md R74. -/
def opcodeRow9 : List Cell :=
  [.two .bcc, .two .staIzy, .ill, .ill, .two .styZpx, .two .staZpx, .two .stxZpy, .ill,
   .one .tya, .three .staAby, .one .txs, .ill, .ill, .three .staAbx, .ill, .ill]

/-- Row Ax of the map of 30_encoding.md R74. -/
def opcodeRowA : List Cell :=
  [.two .ldyImm, .two .ldaIzx, .two .ldxImm, .ill, .two .ldyZp, .two .ldaZp, .two .ldxZp, .ill,
   .one .tay, .two .ldaImm, .one .tax, .ill, .three .ldyAbs, .three .ldaAbs, .three .ldxAbs, .ill]

/-- Row Bx of the map of 30_encoding.md R74. -/
def opcodeRowB : List Cell :=
  [.two .bcs, .two .ldaIzy, .ill, .ill, .two .ldyZpx, .two .ldaZpx, .two .ldxZpy, .ill,
   .one .clv, .three .ldaAby, .one .tsx, .ill, .three .ldyAbx, .three .ldaAbx, .three .ldxAby, .ill]

/-- Row Cx of the map of 30_encoding.md R74. -/
def opcodeRowC : List Cell :=
  [.two .cpyImm, .two .cmpIzx, .ill, .ill, .two .cpyZp, .two .cmpZp, .two .decZp, .ill,
   .one .iny, .two .cmpImm, .one .dex, .ill, .three .cpyAbs, .three .cmpAbs, .three .decAbs, .ill]

/-- Row Dx of the map of 30_encoding.md R74. -/
def opcodeRowD : List Cell :=
  [.two .bne, .two .cmpIzy, .ill, .ill, .ill, .two .cmpZpx, .two .decZpx, .ill,
   .one .cld, .three .cmpAby, .ill, .ill, .ill, .three .cmpAbx, .three .decAbx, .ill]

/-- Row Ex of the map of 30_encoding.md R74. -/
def opcodeRowE : List Cell :=
  [.two .cpxImm, .two .sbcIzx, .ill, .ill, .two .cpxZp, .two .sbcZp, .two .incZp, .ill,
   .one .inx, .two .sbcImm, .one .nop, .ill, .three .cpxAbs, .three .sbcAbs, .three .incAbs, .ill]

/-- Row Fx of the map of 30_encoding.md R74. -/
def opcodeRowF : List Cell :=
  [.two .beq, .two .sbcIzy, .ill, .ill, .ill, .two .sbcZpx, .two .incZpx, .ill,
   .one .sed, .three .sbcAby, .ill, .ill, .ill, .three .sbcAbx, .three .incAbx, .ill]

/-- The map of 30_encoding.md R74: row by high nibble, column by low nibble. -/
def opcodeMap : List (List Cell) :=
  [opcodeRow0, opcodeRow1, opcodeRow2, opcodeRow3, opcodeRow4, opcodeRow5, opcodeRow6, opcodeRow7]
  ++ [opcodeRow8, opcodeRow9, opcodeRowA, opcodeRowB, opcodeRowC, opcodeRowD, opcodeRowE, opcodeRowF]

/-- "Lookup is total (every byte value 0–255 has an entry)" (30_encoding.md R73). -/
def lookup (opcode : Byte) : Cell :=
  (opcodeMap.getD (opcode.toNat / 16) []).getD (opcode.toNat % 16) .ill

/-- Bytes of a cell's instruction. -/
def Cell.length : Cell → Nat
  | .ill => 1
  | .one _ => 1
  | .two _ => 2
  | .three _ => 3

/-- Bytes of the instruction that begins with this opcode byte (30_encoding.md R70, R81). -/
def lengthOf (opcode : Byte) : Nat := (lookup opcode).length

/-- The instruction of an opcode byte and the two bytes after it, of which it uses those its length gives: a
one-byte operand is `byte1`, a two-byte operand `byte2:byte1` (30_encoding.md R71, R72). -/
def decode (byte0 byte1 byte2 : Byte) : Instr :=
  match lookup byte0 with
  | .ill => .ill byte0
  | .one i => i
  | .two f => f byte1
  | .three f => f (mkWord byte2 byte1)

/-- Why a list of bytes holds no whole instruction: it ends before the instruction does. -/
inductive DecodeError where
  /-- The list is empty: there is no opcode byte. -/
  | noOpcode
  /-- The operand bytes of this opcode are not all there. -/
  | missingOperand (opcode : Byte)
deriving DecidableEq, Repr

/-- The instruction at the head of a list of bytes and the bytes after it. Every byte value is a valid opcode
byte (30_encoding.md R73), so only a list that is too short is rejected. -/
def decodeBytes : List Byte → Except DecodeError (Instr × List Byte)
  | [] => .error .noOpcode
  | byte0 :: rest =>
    match lookup byte0, rest with
    | .ill, _ => .ok (.ill byte0, rest)
    | .one i, _ => .ok (i, rest)
    | .two f, byte1 :: rest' => .ok (f byte1, rest')
    | .three f, byte1 :: byte2 :: rest' => .ok (f (mkWord byte2 byte1), rest')
    | .two _, [] => .error (.missingOperand byte0)
    | .three _, _ => .error (.missingOperand byte0)

/-- The three bytes of an instruction word in memory order: the table numbers the opcode byte's bits 7..0, the
next byte's 15..8 and the last byte's 23..16, and every bit above `nbits` is 0. -/
def tableBytes (nbits w : Nat) : List Byte :=
  let v := w % 2 ^ nbits
  [BitVec.ofNat 8 v, BitVec.ofNat 8 (v / 256), BitVec.ofNat 8 (v / 65536)]

/-- The instruction that the decoder reads from an instruction whose bits are `w`. -/
def decodeTableWord (nbits w : Nat) : Option Instr :=
  match decodeBytes (tableBytes nbits w) with
  | .ok (i, _) => some i
  | .error _ => none

/-- The opcode byte of an instruction, from the listing by mnemonic of 30_encoding.md R75. -/
def Instr.opcode : Instr → Byte
  | .adcImm _ => 0x69
  | .adcZp _ => 0x65
  | .adcZpx _ => 0x75
  | .adcAbs _ => 0x6D
  | .adcAbx _ => 0x7D
  | .adcAby _ => 0x79
  | .adcIzx _ => 0x61
  | .adcIzy _ => 0x71
  | .sbcImm _ => 0xE9
  | .sbcZp _ => 0xE5
  | .sbcZpx _ => 0xF5
  | .sbcAbs _ => 0xED
  | .sbcAbx _ => 0xFD
  | .sbcAby _ => 0xF9
  | .sbcIzx _ => 0xE1
  | .sbcIzy _ => 0xF1
  | .cmpImm _ => 0xC9
  | .cmpZp _ => 0xC5
  | .cmpZpx _ => 0xD5
  | .cmpAbs _ => 0xCD
  | .cmpAbx _ => 0xDD
  | .cmpAby _ => 0xD9
  | .cmpIzx _ => 0xC1
  | .cmpIzy _ => 0xD1
  | .cpxImm _ => 0xE0
  | .cpxZp _ => 0xE4
  | .cpxAbs _ => 0xEC
  | .cpyImm _ => 0xC0
  | .cpyZp _ => 0xC4
  | .cpyAbs _ => 0xCC
  | .incZp _ => 0xE6
  | .incZpx _ => 0xF6
  | .incAbs _ => 0xEE
  | .incAbx _ => 0xFE
  | .inx => 0xE8
  | .iny => 0xC8
  | .decZp _ => 0xC6
  | .decZpx _ => 0xD6
  | .decAbs _ => 0xCE
  | .decAbx _ => 0xDE
  | .dex => 0xCA
  | .dey => 0x88
  | .andImm _ => 0x29
  | .andZp _ => 0x25
  | .andZpx _ => 0x35
  | .andAbs _ => 0x2D
  | .andAbx _ => 0x3D
  | .andAby _ => 0x39
  | .andIzx _ => 0x21
  | .andIzy _ => 0x31
  | .oraImm _ => 0x09
  | .oraZp _ => 0x05
  | .oraZpx _ => 0x15
  | .oraAbs _ => 0x0D
  | .oraAbx _ => 0x1D
  | .oraAby _ => 0x19
  | .oraIzx _ => 0x01
  | .oraIzy _ => 0x11
  | .eorImm _ => 0x49
  | .eorZp _ => 0x45
  | .eorZpx _ => 0x55
  | .eorAbs _ => 0x4D
  | .eorAbx _ => 0x5D
  | .eorAby _ => 0x59
  | .eorIzx _ => 0x41
  | .eorIzy _ => 0x51
  | .bitZp _ => 0x24
  | .bitAbs _ => 0x2C
  | .aslAcc => 0x0A
  | .aslZp _ => 0x06
  | .aslZpx _ => 0x16
  | .aslAbs _ => 0x0E
  | .aslAbx _ => 0x1E
  | .lsrAcc => 0x4A
  | .lsrZp _ => 0x46
  | .lsrZpx _ => 0x56
  | .lsrAbs _ => 0x4E
  | .lsrAbx _ => 0x5E
  | .rolAcc => 0x2A
  | .rolZp _ => 0x26
  | .rolZpx _ => 0x36
  | .rolAbs _ => 0x2E
  | .rolAbx _ => 0x3E
  | .rorAcc => 0x6A
  | .rorZp _ => 0x66
  | .rorZpx _ => 0x76
  | .rorAbs _ => 0x6E
  | .rorAbx _ => 0x7E
  | .bcc _ => 0x90
  | .bcs _ => 0xB0
  | .beq _ => 0xF0
  | .bne _ => 0xD0
  | .bmi _ => 0x30
  | .bpl _ => 0x10
  | .bvc _ => 0x50
  | .bvs _ => 0x70
  | .jmpAbs _ => 0x4C
  | .jmpInd _ => 0x6C
  | .jsr _ => 0x20
  | .rts => 0x60
  | .ldaImm _ => 0xA9
  | .ldaZp _ => 0xA5
  | .ldaZpx _ => 0xB5
  | .ldaAbs _ => 0xAD
  | .ldaAbx _ => 0xBD
  | .ldaAby _ => 0xB9
  | .ldaIzx _ => 0xA1
  | .ldaIzy _ => 0xB1
  | .ldxImm _ => 0xA2
  | .ldxZp _ => 0xA6
  | .ldxZpy _ => 0xB6
  | .ldxAbs _ => 0xAE
  | .ldxAby _ => 0xBE
  | .ldyImm _ => 0xA0
  | .ldyZp _ => 0xA4
  | .ldyZpx _ => 0xB4
  | .ldyAbs _ => 0xAC
  | .ldyAbx _ => 0xBC
  | .staZp _ => 0x85
  | .staZpx _ => 0x95
  | .staAbs _ => 0x8D
  | .staAbx _ => 0x9D
  | .staAby _ => 0x99
  | .staIzx _ => 0x81
  | .staIzy _ => 0x91
  | .stxZp _ => 0x86
  | .stxZpy _ => 0x96
  | .stxAbs _ => 0x8E
  | .styZp _ => 0x84
  | .styZpx _ => 0x94
  | .styAbs _ => 0x8C
  | .tax => 0xAA
  | .tay => 0xA8
  | .txa => 0x8A
  | .tya => 0x98
  | .tsx => 0xBA
  | .txs => 0x9A
  | .pha => 0x48
  | .php => 0x08
  | .pla => 0x68
  | .plp => 0x28
  | .brk => 0x00
  | .rti => 0x40
  | .nop => 0xEA
  | .clc => 0x18
  | .sec => 0x38
  | .cli => 0x58
  | .sei => 0x78
  | .cld => 0xD8
  | .sed => 0xF8
  | .clv => 0xB8
  | .ill opcode => opcode

/-- The operand bytes of a mode that yields an address (30_encoding.md R71, R72). -/
def AddrMode.operandBytes : AddrMode → List Byte
  | .zp z => [z]
  | .zpx z => [z]
  | .zpy z => [z]
  | .abs addr => [loByte addr, hiByte addr]
  | .abx base => [loByte base, hiByte base]
  | .aby base => [loByte base, hiByte base]
  | .ind ptr => [loByte ptr, hiByte ptr]
  | .izx z => [z]
  | .izy z => [z]

/-- The operand bytes of a form (30_encoding.md R71, R72). -/
def Form.operandBytes : Form → List Byte
  | .imp => []
  | .acc => []
  | .imm v => [v]
  | .mem m => m.operandBytes
  | .rel off => [off]
  | .ill _ => []

/-- The bytes of an instruction in memory order: the opcode byte, then the operand bytes (30_encoding.md R70). -/
def encode (i : Instr) : List Byte := i.opcode :: i.form.operandBytes

end Sys2Proof
end

