-- ==== Sys2Proof/Config.lean ====
section
/-! DEFINITION. What is fixed for one machine: the addresses the core itself fixes, the parameters the spec
leaves open with the value this model takes, and the free values. -/

namespace Sys2Proof

/-- NMI vector, low byte (20_memory.md R51). -/
def Config.nmiVector : Word := 0xFFFA#16

/-- Reset vector, low byte (20_memory.md R51). -/
def Config.resetVector : Word := 0xFFFC#16

/-- IRQ and BRK vector, low byte (20_memory.md R51). -/
def Config.irqVector : Word := 0xFFFE#16

/-- Base address of the stack page (10_state.md R12). -/
def Config.stackPage : Word := 0x0100#16

/-- `PRG_ROM_SIZE`. DESIGN CHOICE: the spec's own default, which fills $8000 to $FFFF (20_memory.md R58, D18;
log entry 4, unsafe for a shorter image). -/
def Config.prgRomSize : Nat := 32768

/-- What a byte of memory that nothing has written reads as. DESIGN CHOICE: the spec leaves the launch memory
`mem0` open (D19; log entry 1, unsafe for a claim about `State.reset`; every other launch memory is a state in
which its bytes are listed). -/
def Config.unlistedByte : Byte := 0x00#8

/-- FREE VALUE: the byte that the `n`-th read of a stub or unmapped address returns, "a draw (any u8, chosen
freely at each read)" (20_memory.md R55 to R57; log entry 2, safe). It has no body, so no proof can know it. -/
opaque Config.draw : Nat → Byte

end Sys2Proof
end

