-- ==== Sys2Proof/Machine/State.lean ====
section
/-! DEFINITION. The state of the machine as plain data: the core's state of 10_state.md ("A, X, Y, SP, PC, P,
`nmi_pending`, `irq_pending`, `cycles`"), the memory of 20_memory.md section 5, and two fields of the model's own
(`draws`, `bus`). -/

namespace Sys2Proof.Machine

/-- The status register P (10_state.md R13). Bit 5, U, "always reads 1" (R15): it is a constant and has no field
(log entry 9). -/
structure Status where
  /-- Negative, bit 7. -/
  n : Bool
  /-- Overflow, bit 6. -/
  v : Bool
  /-- The stored Break bit, bit 4, which no instruction changes (R17). -/
  b : Bool
  /-- Decimal, bit 3; stored and ignored by arithmetic (41_arithmetic.md R153). -/
  d : Bool
  /-- Interrupt-disable, bit 2. -/
  i : Bool
  /-- Zero, bit 1. -/
  z : Bool
  /-- Carry, bit 0. -/
  c : Bool
deriving DecidableEq, Repr

/-- The storage that has been written: pairs of a canonical address (20_memory.md R53) and its byte, addresses
strictly rising, no entry equal to `Config.unlistedByte`, which every unlisted address reads as. -/
abbrev Memory := List Host.Cell

/-- Whether an address is a canonical address of a byte of storage: internal RAM, PRG RAM or PRG ROM
(20_memory.md R52, R54, R58). -/
def isStorageAddress (a : Nat) : Bool :=
  a < 0x0800 || (0x6000 ≤ a && a < 0x8000 + Config.prgRomSize)

/-- The canonical form of a memory. -/
abbrev Memory.wf (m : Memory) : Prop :=
  m.Pairwise (fun c d => c.1 < d.1) ∧ ∀ c ∈ m, isStorageAddress c.1 = true ∧ c.2 ≠ Config.unlistedByte

/-- One bus transaction, each one byte wide (20_memory.md R40 to R42). -/
inductive Transaction where
  | read (addr : Word) (value : Byte)
  | write (addr : Word) (value : Byte)
deriving DecidableEq, Repr

/-- The machine's state. -/
structure State where
  /-- The accumulator (10_state.md R10). -/
  a : Byte
  /-- The index register X (10_state.md R10). -/
  x : Byte
  /-- The index register Y (10_state.md R10). -/
  y : Byte
  /-- The stack pointer into page 1 (10_state.md R12). -/
  sp : Byte
  /-- The program counter (10_state.md R11). -/
  pc : Word
  /-- The status register (10_state.md R13). -/
  p : Status
  /-- The NMI latch `nmi_pending` (10_state.md R21). -/
  nmiPending : Bool
  /-- The IRQ latch `irq_pending` (10_state.md R21). -/
  irqPending : Bool
  /-- The cycle counter, "an unbounded natural number" (10_state.md R22). -/
  cycles : Nat
  /-- The memory environment's storage (10_state.md R24, 20_memory.md section 5). -/
  mem : Memory
  /-- The MODEL's own: how many free values have been taken; it indexes `Config.draw` (log entry 2). -/
  draws : Nat
  /-- The MODEL's own: the bus transactions of the last step, in order (20_memory.md R40,
  40_step_and_addressing.md R120). An output: every step starts it afresh and nothing reads it (log entry 3). -/
  bus : List Transaction
deriving DecidableEq, Repr

/-- Why a step stops. -/
inductive Fault where
  /-- `UnimplementedOpcode(byte)`: raised by the meaning of ILL alone, so by a step whose opcode byte is one of
  the 105 unimplemented values (60_exceptions.md R250, R251, 46_system.md R241). Safe: the spec itself ends the
  step there, with no state changed. -/
  | unimplementedOpcode (opcode : Byte)
deriving DecidableEq, Repr

/-- Why the model has no meaning to offer. -/
inductive Refusal where
  /-- Raised only by an arm of `exec` whose instruction has no meaning yet; no arm does. Safe. -/
  | notModelled (mnemonic : String)
deriving DecidableEq, Repr

/-- P after reset, $24: "N=0 V=0 U=1 B=0 D=0 I=1 Z=0 C=0" (10_state.md R28). -/
def Status.reset : Status :=
  { n := false, v := false, b := false, d := false, i := true, z := false, c := false }

/-- The machine right after reset with nothing listed in memory (10_state.md R28, 70_reset_and_hazards.md R280).
PC is `Read16($FFFC)`, here the two unlisted bytes (log entry 1); the two vector reads are reset's only
transactions (R280). -/
def State.reset : State :=
  { a := 0x00#8, x := 0x00#8, y := 0x00#8, sp := 0xFD#8
    pc := Config.unlistedByte ++ Config.unlistedByte
    p := Status.reset
    nmiPending := false, irqPending := false
    cycles := 0
    mem := []
    draws := 0
    bus := [.read 0xFFFC#16 Config.unlistedByte, .read 0xFFFD#16 Config.unlistedByte] }

end Sys2Proof.Machine
end

