-- ==== Sys2Proof/Machine/Flags.lean ====
section
/-! DEFINITION. The status byte and every flag computation: pure functions on `Status` and bytes. -/

namespace Sys2Proof.Machine

/-- The eight flags of P by letter (10_state.md R13). -/
inductive Flag where
  | N | V | U | B | D | I | Z | C
deriving DecidableEq, Repr

/-- The component's `get(flag)`; U always reads 1 (10_state.md R15, R20). -/
def Status.get (p : Status) : Flag → Bool
  | .N => p.n
  | .V => p.v
  | .U => true
  | .B => p.b
  | .D => p.d
  | .I => p.i
  | .Z => p.z
  | .C => p.c

/-- The component's `set(flag, bool)`; "`set(U, false)` has no effect" (10_state.md R20). -/
def Status.set (p : Status) (f : Flag) (on : Bool) : Status :=
  match f with
  | .N => { p with n := on }
  | .V => { p with v := on }
  | .U => p
  | .B => { p with b := on }
  | .D => { p with d := on }
  | .I => { p with i := on }
  | .Z => { p with z := on }
  | .C => { p with c := on }

/-- `PackP(b)`: the status byte with bit 4 replaced by `b` and bit 5 = 1 (10_state.md R18). -/
def Status.pack (p : Status) (b : Bool) : Byte :=
  BitVec.ofBool p.n ++ BitVec.ofBool p.v ++ 1#1 ++ BitVec.ofBool b
    ++ BitVec.ofBool p.d ++ BitVec.ofBool p.i ++ BitVec.ofBool p.z ++ BitVec.ofBool p.c

/-- `UnpackP(v)`: B keeps its stored value and bits 5 and 4 of the pulled byte are ignored (10_state.md R19). -/
def Status.unpack (p : Status) (v : Byte) : Status :=
  { p with n := v.getLsbD 7, v := v.getLsbD 6, d := v.getLsbD 3, i := v.getLsbD 2, z := v.getLsbD 1, c := v.getLsbD 0 }

/-- The component's `as_byte()`, which is `PackP(P.B)` (10_state.md R20). -/
def Status.asByte (p : Status) : Byte := p.pack p.b

/-- The component's `load_byte(v)`, which loads B too and leaves U = 1 (10_state.md R20). -/
def Status.loadByte (p : Status) (v : Byte) : Status :=
  { p.unpack v with b := v.getLsbD 4 }

/-- `SetZN(v)` (10_state.md R16). -/
def Status.setZN (p : Status) (v : Byte) : Status :=
  { p with z := v == 0x00#8, n := v.getLsbD 7 }

/-- What the adder yields: the byte, the carry out of bit 7 and the signed overflow. -/
structure Sum where
  result : Byte
  carry : Bool
  overflow : Bool
deriving DecidableEq, Repr

/-- The adder of ADC: `sum = A + M + C` exactly, then the byte, `sum[8]` and the overflow formula
`((A ^ R) & (M ^ R) & 0x80) != 0` (41_arithmetic.md R141). Binary whatever P.D holds (R153). -/
def addWithCarry (a m : Byte) (c : Bool) : Sum :=
  let sum := a.toNat + m.toNat + c.toNat
  let r : Byte := BitVec.ofNat 8 sum
  { result := r
    carry := sum.testBit 8
    overflow := (a ^^^ r) &&& (m ^^^ r) &&& 0x80#8 != 0x00#8 }

/-- The flags of a compare of register value `r` with `m`: carry iff `r >= m` unsigned, Z and N from `r - m`;
V is not written (41_arithmetic.md R143 to R145). -/
def Status.compare (p : Status) (r m : Byte) : Status :=
  { p with c := decide (m.toNat ≤ r.toNat) }.setZN (r - m)

/-- The flags of BIT: Z from `A & M`, N and V from bits 7 and 6 of `M` itself (42_logic_shift.md R164). -/
def Status.bitTest (p : Status) (a m : Byte) : Status :=
  { p with z := a &&& m == 0x00#8, n := m.getLsbD 7, v := m.getLsbD 6 }

/-- A read-modify-write operation on a byte and the status: the new byte and the new status. -/
abbrev Modify := Byte → Status → Byte × Status

/-- INC's operation (41_arithmetic.md R146). -/
def increment : Modify := fun v p => (v + 1#8, p.setZN (v + 1#8))

/-- DEC's operation (41_arithmetic.md R149). -/
def decrement : Modify := fun v p => (v - 1#8, p.setZN (v - 1#8))

/-- ASL's operation: bit 7 goes to C (42_logic_shift.md R165). -/
def shiftLeft : Modify := fun v p =>
  let r := v <<< 1
  (r, { p with c := v.getLsbD 7 }.setZN r)

/-- LSR's operation: bit 0 goes to C (42_logic_shift.md R166). -/
def shiftRight : Modify := fun v p =>
  let r := v >>> 1
  (r, { p with c := v.getLsbD 0 }.setZN r)

/-- ROL's operation: the old C enters bit 0, bit 7 goes to C (42_logic_shift.md R167). -/
def rotateLeft : Modify := fun v p =>
  let r := v <<< 1 ||| (BitVec.ofBool p.c).setWidth 8
  (r, { p with c := v.getLsbD 7 }.setZN r)

/-- ROR's operation: the old C enters bit 7, bit 0 goes to C (42_logic_shift.md R168). -/
def rotateRight : Modify := fun v p =>
  let r := v >>> 1 ||| (BitVec.ofBool p.c).setWidth 8 <<< 7
  (r, { p with c := v.getLsbD 0 }.setZN r)

end Sys2Proof.Machine
end

