-- ==== Sys2Proof/Machine/Ops.lean ====
section
/-! DEFINITION. The named operations on memory, the bus, the registers and the stack, the entry to a handler and
the return from it, and the fetch of an instruction. -/

namespace Sys2Proof.Machine

/-- The outcome of an instruction or a step. -/
abbrev StepResult := Host.Outcome State Fault Refusal

/-! ## One update per field of State -/

/-- `A <- v`. -/
def State.setA (s : State) (v : Byte) : State := { s with a := v }
/-- `X <- v`. -/
def State.setX (s : State) (v : Byte) : State := { s with x := v }
/-- `Y <- v`. -/
def State.setY (s : State) (v : Byte) : State := { s with y := v }
/-- `SP <- v`. -/
def State.setSp (s : State) (v : Byte) : State := { s with sp := v }
/-- `PC <- w`. -/
def State.setPc (s : State) (w : Word) : State := { s with pc := w }
/-- `P <- p`. -/
def State.setP (s : State) (p : Status) : State := { s with p := p }
/-- `nmi_pending <- on`. -/
def State.setNmi (s : State) (on : Bool) : State := { s with nmiPending := on }
/-- `irq_pending <- on`. -/
def State.setIrq (s : State) (on : Bool) : State := { s with irqPending := on }
/-- Replaces the storage. -/
def State.setMem (s : State) (m : Memory) : State := { s with mem := m }
/-- `cycles <- cycles + n` (40_step_and_addressing.md R101). -/
def State.charge (s : State) (n : Nat) : State := { s with cycles := s.cycles + n }
/-- Takes one free value. -/
def State.takeDraw (s : State) : State := { s with draws := s.draws + 1 }
/-- Records a transaction. -/
def State.record (s : State) (t : Transaction) : State := { s with bus := s.bus ++ [t] }
/-- Starts the record of a step. -/
def State.clearBus (s : State) : State := { s with bus := [] }

/-- `PC <- (PC + n) mod 65536`: past `n` bytes of an instruction (10_state.md R11). -/
def State.advance (s : State) (n : Nat) : State := s.setPc (s.pc + BitVec.ofNat 16 n)

/-! ## Storage -/

/-- The byte of storage at a canonical address. -/
def Memory.get : Memory → Nat → Byte
  | [], _ => Config.unlistedByte
  | c :: m, a => if c.1 = a then c.2 else Memory.get m a

/-- Removes what is listed for an address. -/
def Memory.erase (m : Memory) (a : Nat) : Memory := m.filter (fun c => c.1 != a)

/-- Lists a byte for an address, in rising order. -/
def Memory.insert : Memory → Nat → Byte → Memory
  | [], a, v => [(a, v)]
  | c :: m, a, v => if a < c.1 then (a, v) :: c :: m else c :: Memory.insert m a v

/-- Writes one byte of storage, keeping the canonical form. -/
def Memory.set (m : Memory) (a : Nat) (v : Byte) : Memory :=
  if v = Config.unlistedByte then m.erase a else (m.erase a).insert a v

/-! ## The address map -/

/-- The backing regions of 20_memory.md R52, a mirror counted with what it mirrors. -/
inductive Region where
  /-- Internal RAM and its mirrors, $0000 to $1FFF (R54). -/
  | ram
  /-- PPU registers and their mirrors, $2000 to $3FFF (R55). -/
  | ppu
  /-- APU and I/O registers, $4000 to $4017 (R56). -/
  | apu
  /-- APU test-mode registers, $4018 to $401F (R56). -/
  | apuTest
  /-- Unmapped, $4020 to $5FFF (R57). -/
  | unmapped
  /-- Cartridge PRG RAM, $6000 to $7FFF (R58). -/
  | prgRam
  /-- Cartridge PRG ROM, from $8000 (R58). -/
  | prgRom
deriving DecidableEq, Repr

/-- The region of an address: "resolves to exactly one backing region" (20_memory.md R52). -/
def region (addr : Word) : Region :=
  let a := addr.toNat
  if a < 0x2000 then .ram
  else if a < 0x4000 then .ppu
  else if a < 0x4018 then .apu
  else if a < 0x4020 then .apuTest
  else if a < 0x6000 then .unmapped
  else if a < 0x8000 then .prgRam
  else if a < 0x8000 + Config.prgRomSize then .prgRom
  else .unmapped

/-- Whether a region is backed by storage (20_memory.md R52, last column). -/
def Region.isStorage : Region → Bool
  | .ram => true
  | .ppu => false
  | .apu => false
  | .apuTest => false
  | .unmapped => false
  | .prgRam => true
  | .prgRom => true

/-- Whether a write by the core is stored; otherwise it is "silently ignored" (20_memory.md R59). -/
def Region.isWritable : Region → Bool
  | .ram => true
  | .ppu => false
  | .apu => false
  | .apuTest => false
  | .unmapped => false
  | .prgRam => true
  | .prgRom => false

/-- `canon(a)` (20_memory.md R53). -/
def canon (addr : Word) : Word :=
  if addr.toNat ≤ 0x1FFF then addr &&& 0x07FF#16
  else if addr.toNat ≤ 0x3FFF then addr &&& 0x2007#16
  else addr

/-- The byte of storage behind an address, as it stands. -/
def State.stored (s : State) (addr : Word) : Byte := s.mem.get (canon addr).toNat

/-- Puts a byte into the storage behind an address, ROM included, and discards it where there is no storage: the
access of `load_program` (20_memory.md R61). -/
def State.place (s : State) (addr : Word) (v : Byte) : State :=
  if (region addr).isStorage then s.setMem (s.mem.set (canon addr).toNat v) else s

/-! ## The bus -/

/-- `MemRead(addr, 1)`: the byte and the state after (20_memory.md R41). Storage gives its byte; a stub or
unmapped address gives a fresh draw (R55 to R57, R60). It never fails. -/
def memRead (addr : Word) (s : State) : Byte × State :=
  if (region addr).isStorage then
    (s.stored addr, s.record (.read addr (s.stored addr)))
  else
    (Config.draw s.draws, s.takeDraw.record (.read addr (Config.draw s.draws)))

/-- `MemWrite(addr, 1, v)` (20_memory.md R42): stored in RAM and PRG RAM, discarded elsewhere (R59). It never
fails. -/
def memWrite (addr : Word) (v : Byte) (s : State) : State :=
  let s1 := s.record (.write addr v)
  if (region addr).isWritable then s1.place addr v else s1

/-- A 16-bit read whose two bytes lie at the two addresses, low byte first (20_memory.md R44). -/
def readPair (loAddr hiAddr : Word) (s : State) : Word × State :=
  let lo := memRead loAddr s
  let hi := memRead hiAddr lo.2
  (mkWord hi.1 lo.1, hi.2)

/-- `Read16(addr)` (20_memory.md R44). -/
def read16 (addr : Word) (s : State) : Word × State := readPair addr (addr + 1#16) s

/-! ## The stack -/

/-- `0x0100 + SP` for a value of SP (10_state.md R12). -/
def stackAddr (sp : Byte) : Word := Config.stackPage + zext16 sp

/-- `Push(v)` (10_state.md R12). -/
def push (v : Byte) (s : State) : State :=
  (memWrite (stackAddr s.sp) v s).setSp (s.sp - 1#8)

/-- `Pull()` (10_state.md R12). -/
def pull (s : State) : Byte × State :=
  memRead (stackAddr (s.sp + 1#8)) (s.setSp (s.sp + 1#8))

/-- Pushes a 16-bit value, high byte first (20_memory.md R43). -/
def pushWord (w : Word) (s : State) : State := push (loByte w) (push (hiByte w) s)

/-- Pulls a 16-bit value, low byte first (20_memory.md R43). -/
def pullWord (s : State) : Word × State :=
  let lo := pull s
  let hi := pull lo.2
  (mkWord hi.1 lo.1, hi.2)

/-! ## Taking an exception and returning from it -/

/-- Entry to a handler, the one sequence of NMI, IRQ (60_exceptions.md R256) and BRK (46_system.md R231): pushes
the return address, then P with bit 4 = `brk`; sets I; loads PC from the vector. D, the stored B and the latches
stay as they are. -/
def enterHandler (ret : Word) (brk : Bool) (vector : Word) (s : State) : State :=
  let s1 := pushWord ret s
  let s2 := push (s1.p.pack brk) s1
  let s3 := s2.setP { s2.p with i := true }
  let target := read16 vector s3
  target.2.setPc target.1

/-- The return from a handler: pulls P, then PC low, then PC high, and resumes at exactly that address
(46_system.md R232, 60_exceptions.md R260). -/
def leaveHandler (s : State) : State :=
  let status := pull s
  let target := pullWord (status.2.setP (status.2.p.unpack status.1))
  target.2.setPc target.1

/-- Whether an IRQ is serviced at this step boundary (60_exceptions.md R254). -/
def irqServiceable (s : State) : Bool := s.irqPending && !s.p.i

/-- Cycles of an NMI or IRQ service sequence (40_step_and_addressing.md R101, D6). -/
def serviceCycles : Nat := 7

/-- The NMI service step: its latch is cleared, no instruction is fetched (60_exceptions.md R255, R256). -/
def serviceNmi (s : State) : State :=
  (enterHandler s.pc false Config.nmiVector (s.setNmi false)).charge serviceCycles

/-- The IRQ service step (60_exceptions.md R255, R256). -/
def serviceIrq (s : State) : State :=
  (enterHandler s.pc false Config.irqVector (s.setIrq false)).charge serviceCycles

/-! ## Fetching an instruction -/

/-- The instruction whose opcode byte is at `addr` and the state after its bytes have been read: the opcode
byte, then exactly the operand bytes its length gives, at ascending addresses with wrap
(40_step_and_addressing.md R102, R120, R121). PC stays at the opcode byte; the meaning moves it on
(R101: an unimplemented opcode leaves it there). -/
def fetchAt (addr : Word) (s : State) : Instr × State :=
  let b0 := memRead addr s
  match lengthOf b0.1 with
  | 2 =>
    let b1 := memRead (addr + 1#16) b0.2
    (decode b0.1 b1.1 0x00#8, b1.2)
  | 3 =>
    let b1 := memRead (addr + 1#16) b0.2
    let b2 := memRead (addr + 2#16) b1.2
    (decode b0.1 b1.1 b2.1, b2.2)
  | _ => (decode b0.1 0x00#8 0x00#8, b0.2)

/-- The fetch of a step: at PC. -/
def fetch (s : State) : Instr × State := fetchAt s.pc s

/-- Puts bytes at ascending addresses, wrapping. DESIGN CHOICE: the order is ascending, so where two bytes of one
sequence fall on one byte of mirrored RAM, the later one stays (20_memory.md R61 gives no order; log entry 15). -/
def placeBytes : List Byte → Word → State → State
  | [], _, s => s
  | v :: vs, addr, s => placeBytes vs (addr + 1#16) (s.place addr v)

/-- Whether the longest instruction at this address lies in storage. -/
def fetchesFromStorage (addr : Word) : Bool :=
  (region addr).isStorage && (region (addr + 1#16)).isStorage && (region (addr + 2#16)).isStorage

/-- Where an instruction can be put so that the next step fetches it: at PC, or at $8000 where the bytes at PC
are not storage (log entry 8). -/
def placementPc (s : State) : Word := if fetchesFromStorage s.pc then s.pc else 0x8000#16

/-- The state with the bytes of an instruction where the next step fetches, and no interrupt serviceable at
that step (log entry 8). -/
def placeInstruction (bytes : List Byte) (s : State) : State :=
  let s1 := s.setPc (placementPc s)
  let s2 := (s1.setNmi false).setIrq (s1.irqPending && s1.p.i)
  placeBytes bytes s2.pc s2

end Sys2Proof.Machine
end

