-- ==== Sys2Proof/Machine/Operands.lean ====
section
/-! DEFINITION. The addressing modes of 40_step_and_addressing.md R106 to R118 and the shapes of instruction that
the meanings are built from. Every function here runs after the operand bytes have been fetched; `State.advance`
has moved PC past the instruction. -/

namespace Sys2Proof.Machine

/-- What the resolver returns for a mode that yields an address: the address, `page_crossed`, and the state after
its pointer bytes have been read (40_step_and_addressing.md R105). -/
structure Resolution where
  ea : Word
  crossed : Bool
  st : State
deriving DecidableEq, Repr

/-- The sum of a 16-bit base and an 8-bit index, modulo 65536, and whether it changed the high byte (R113, R114,
R117). -/
def indexed (base : Word) (index : Byte) (s : State) : Resolution :=
  let ea := base + zext16 index
  { ea := ea, crossed := pageCrossed base ea, st := s }

/-- A zero-page pointer at `p`: both bytes come from page 0 (R116, R117, D9). -/
def readZeroPagePointer (p : Byte) (s : State) : Word × State :=
  readPair (zext16 p) (zext16 (p + 1#8)) s

/-- The resolver for the modes that yield an address. -/
def resolveAddr (m : AddrMode) (s : State) : Resolution :=
  match m with
  -- R109: "effective address = next byte, zero-extended"
  | .zp z => { ea := zext16 z, crossed := false, st := s }
  -- R110, R111: the sum is masked to 8 bits
  | .zpx z => { ea := zext16 (z + s.x), crossed := false, st := s }
  | .zpy z => { ea := zext16 (z + s.y), crossed := false, st := s }
  -- R112
  | .abs addr => { ea := addr, crossed := false, st := s }
  -- R113, R114
  | .abx base => indexed base s.x s
  | .aby base => indexed base s.y s
  -- R115: the second byte comes from the same page as the first
  | .ind ptr =>
    let target := readPair ptr (mkWord (hiByte ptr) (loByte ptr + 1#8)) s
    { ea := target.1, crossed := false, st := target.2 }
  -- R116
  | .izx z =>
    let target := readZeroPagePointer (z + s.x) s
    { ea := target.1, crossed := false, st := target.2 }
  -- R117
  | .izy z =>
    let base := readZeroPagePointer z s
    indexed base.1 s.y base.2

/-- What reading a source operand yields: `LoadOperand(op)`, `page_crossed`, and the state after. -/
structure Loaded where
  val : Byte
  crossed : Bool
  st : State
deriving DecidableEq, Repr

/-- `Resolve` and then `LoadOperand` for an immediate or a memory operand (R105, R108, R119). -/
def loadSource (src : Source) (s : State) : Loaded :=
  match src with
  | .imm v => { val := v, crossed := false, st := s }
  | .mem m =>
    let r := resolveAddr m s
    let d := memRead r.ea r.st
    { val := d.1, crossed := r.crossed, st := d.2 }

/-- A read-modify-write: `Resolve`, `LoadOperand`, the operation, `StoreOperand`, and the flags. For the
accumulator no bus transaction occurs (R107, R119); for memory one read then one write of ea (20_memory.md R46).
-/
def modifyPlace (f : Modify) (pl : Place) (s : State) : State :=
  match pl with
  | .acc =>
    let r := f s.a s.p
    (s.setA r.1).setP r.2
  | .mem m =>
    let t := resolveAddr m s
    let d := memRead t.ea t.st
    let r := f d.1 d.2.p
    (memWrite t.ea r.1 d.2).setP r.2

/-- The page-crossing penalty: one cycle, only for a row marked `+` (R104). -/
def crossPenalty (marked crossed : Bool) : Nat := if marked && crossed then 1 else 0

/-- Shape: one operand is loaded and `f` uses it. `cycles` is the row's base count and `marked` its `+`
(30_encoding.md R74, R75). -/
def readOp (f : Byte → State → State) (src : Source) (cycles : Nat) (marked : Bool) (s : State) : StepResult :=
  let l := loadSource src (s.advance src.form.length)
  .next ((f l.val l.st).charge (cycles + crossPenalty marked l.crossed))

/-- Shape: one byte is stored at the effective address; no read of it and no penalty (44_transfers.md R200,
30_encoding.md R76). -/
def storeOp (v : Byte) (m : AddrMode) (cycles : Nat) (s : State) : StepResult :=
  let t := resolveAddr m (s.advance m.length)
  .next ((memWrite t.ea v t.st).charge cycles)

/-- Shape: read-modify-write, no penalty (30_encoding.md R76). -/
def modifyOp (f : Modify) (pl : Place) (cycles : Nat) (s : State) : StepResult :=
  .next ((modifyPlace f pl (s.advance pl.form.length)).charge cycles)

/-- Shape: no operand (R106). -/
def impliedOp (f : State → State) (cycles : Nat) (s : State) : StepResult :=
  .next ((f (s.advance 1)).charge cycles)

end Sys2Proof.Machine
end

