-- ==== Sys2Proof/Machine/Arithmetic.lean ====
section
/-! DEFINITION. 41_arithmetic.md: ADC, SBC, CMP, CPX, CPY, INC, INX, INY, DEC, DEX, DEY. -/

namespace Sys2Proof.Machine

/-- A and C, V, Z, N from an addition. -/
def State.takeSum (s : State) (r : Sum) : State :=
  (s.setA r.result).setP ({ s.p with c := r.carry, v := r.overflow }.setZN r.result)

/-- ADC's operation (R141). -/
def addA (m : Byte) (s : State) : State := s.takeSum (addWithCarry s.a m s.p.c)

/-- SBC's operation: ADC of the operand's one's complement (R142). -/
def subA (m : Byte) (s : State) : State := s.takeSum (addWithCarry s.a (m ^^^ 0xFF#8) s.p.c)

/-- CMP's operation (R143). -/
def compareA (m : Byte) (s : State) : State := s.setP (s.p.compare s.a m)

/-- CPX's operation (R144). -/
def compareX (m : Byte) (s : State) : State := s.setP (s.p.compare s.x m)

/-- CPY's operation (R145). -/
def compareY (m : Byte) (s : State) : State := s.setP (s.p.compare s.y m)

/-- INX's operation (R147). -/
def incrementX (s : State) : State := (s.setX (s.x + 1#8)).setP (s.p.setZN (s.x + 1#8))

/-- INY's operation (R148). -/
def incrementY (s : State) : State := (s.setY (s.y + 1#8)).setP (s.p.setZN (s.y + 1#8))

/-- DEX's operation (R150). -/
def decrementX (s : State) : State := (s.setX (s.x - 1#8)).setP (s.p.setZN (s.x - 1#8))

/-- DEY's operation (R151). -/
def decrementY (s : State) : State := (s.setY (s.y - 1#8)).setP (s.p.setZN (s.y - 1#8))

/-- `ADC #$nn` (69), R141; 2 cycles. -/
def execAdcImm (v : Byte) (s : State) : StepResult := readOp addA (.imm v) 2 false s

/-- `ADC $nn` (65), R141; 3 cycles. -/
def execAdcZp (z : Byte) (s : State) : StepResult := readOp addA (.mem (.zp z)) 3 false s

/-- `ADC $nn,X` (75), R141; 4 cycles. -/
def execAdcZpx (z : Byte) (s : State) : StepResult := readOp addA (.mem (.zpx z)) 4 false s

/-- `ADC $nnnn` (6D), R141; 4 cycles. -/
def execAdcAbs (addr : Word) (s : State) : StepResult := readOp addA (.mem (.abs addr)) 4 false s

/-- `ADC $nnnn,X` (7D), R141; 4 cycles + page crossing. -/
def execAdcAbx (base : Word) (s : State) : StepResult := readOp addA (.mem (.abx base)) 4 true s

/-- `ADC $nnnn,Y` (79), R141; 4 cycles + page crossing. -/
def execAdcAby (base : Word) (s : State) : StepResult := readOp addA (.mem (.aby base)) 4 true s

/-- `ADC ($nn,X)` (61), R141; 6 cycles. -/
def execAdcIzx (z : Byte) (s : State) : StepResult := readOp addA (.mem (.izx z)) 6 false s

/-- `ADC ($nn),Y` (71), R141; 5 cycles + page crossing. -/
def execAdcIzy (z : Byte) (s : State) : StepResult := readOp addA (.mem (.izy z)) 5 true s

/-- `SBC #$nn` (E9), R142; 2 cycles. -/
def execSbcImm (v : Byte) (s : State) : StepResult := readOp subA (.imm v) 2 false s

/-- `SBC $nn` (E5), R142; 3 cycles. -/
def execSbcZp (z : Byte) (s : State) : StepResult := readOp subA (.mem (.zp z)) 3 false s

/-- `SBC $nn,X` (F5), R142; 4 cycles. -/
def execSbcZpx (z : Byte) (s : State) : StepResult := readOp subA (.mem (.zpx z)) 4 false s

/-- `SBC $nnnn` (ED), R142; 4 cycles. -/
def execSbcAbs (addr : Word) (s : State) : StepResult := readOp subA (.mem (.abs addr)) 4 false s

/-- `SBC $nnnn,X` (FD), R142; 4 cycles + page crossing. -/
def execSbcAbx (base : Word) (s : State) : StepResult := readOp subA (.mem (.abx base)) 4 true s

/-- `SBC $nnnn,Y` (F9), R142; 4 cycles + page crossing. -/
def execSbcAby (base : Word) (s : State) : StepResult := readOp subA (.mem (.aby base)) 4 true s

/-- `SBC ($nn,X)` (E1), R142; 6 cycles. -/
def execSbcIzx (z : Byte) (s : State) : StepResult := readOp subA (.mem (.izx z)) 6 false s

/-- `SBC ($nn),Y` (F1), R142; 5 cycles + page crossing. -/
def execSbcIzy (z : Byte) (s : State) : StepResult := readOp subA (.mem (.izy z)) 5 true s

/-- `CMP #$nn` (C9), R143; 2 cycles. -/
def execCmpImm (v : Byte) (s : State) : StepResult := readOp compareA (.imm v) 2 false s

/-- `CMP $nn` (C5), R143; 3 cycles. -/
def execCmpZp (z : Byte) (s : State) : StepResult := readOp compareA (.mem (.zp z)) 3 false s

/-- `CMP $nn,X` (D5), R143; 4 cycles. -/
def execCmpZpx (z : Byte) (s : State) : StepResult := readOp compareA (.mem (.zpx z)) 4 false s

/-- `CMP $nnnn` (CD), R143; 4 cycles. -/
def execCmpAbs (addr : Word) (s : State) : StepResult := readOp compareA (.mem (.abs addr)) 4 false s

/-- `CMP $nnnn,X` (DD), R143; 4 cycles + page crossing. -/
def execCmpAbx (base : Word) (s : State) : StepResult := readOp compareA (.mem (.abx base)) 4 true s

/-- `CMP $nnnn,Y` (D9), R143; 4 cycles + page crossing. -/
def execCmpAby (base : Word) (s : State) : StepResult := readOp compareA (.mem (.aby base)) 4 true s

/-- `CMP ($nn,X)` (C1), R143; 6 cycles. -/
def execCmpIzx (z : Byte) (s : State) : StepResult := readOp compareA (.mem (.izx z)) 6 false s

/-- `CMP ($nn),Y` (D1), R143; 5 cycles + page crossing. -/
def execCmpIzy (z : Byte) (s : State) : StepResult := readOp compareA (.mem (.izy z)) 5 true s

/-- `CPX #$nn` (E0), R144; 2 cycles. -/
def execCpxImm (v : Byte) (s : State) : StepResult := readOp compareX (.imm v) 2 false s

/-- `CPX $nn` (E4), R144; 3 cycles. -/
def execCpxZp (z : Byte) (s : State) : StepResult := readOp compareX (.mem (.zp z)) 3 false s

/-- `CPX $nnnn` (EC), R144; 4 cycles. -/
def execCpxAbs (addr : Word) (s : State) : StepResult := readOp compareX (.mem (.abs addr)) 4 false s

/-- `CPY #$nn` (C0), R145; 2 cycles. -/
def execCpyImm (v : Byte) (s : State) : StepResult := readOp compareY (.imm v) 2 false s

/-- `CPY $nn` (C4), R145; 3 cycles. -/
def execCpyZp (z : Byte) (s : State) : StepResult := readOp compareY (.mem (.zp z)) 3 false s

/-- `CPY $nnnn` (CC), R145; 4 cycles. -/
def execCpyAbs (addr : Word) (s : State) : StepResult := readOp compareY (.mem (.abs addr)) 4 false s

/-- `INC $nn` (E6), R146; 5 cycles. -/
def execIncZp (z : Byte) (s : State) : StepResult := modifyOp increment (.mem (.zp z)) 5 s

/-- `INC $nn,X` (F6), R146; 6 cycles. -/
def execIncZpx (z : Byte) (s : State) : StepResult := modifyOp increment (.mem (.zpx z)) 6 s

/-- `INC $nnnn` (EE), R146; 6 cycles. -/
def execIncAbs (addr : Word) (s : State) : StepResult := modifyOp increment (.mem (.abs addr)) 6 s

/-- `INC $nnnn,X` (FE), R146; 7 cycles. -/
def execIncAbx (base : Word) (s : State) : StepResult := modifyOp increment (.mem (.abx base)) 7 s

/-- `INX` (E8), R147; 2 cycles. -/
def execInx (s : State) : StepResult := impliedOp incrementX 2 s

/-- `INY` (C8), R148; 2 cycles. -/
def execIny (s : State) : StepResult := impliedOp incrementY 2 s

/-- `DEC $nn` (C6), R149; 5 cycles. -/
def execDecZp (z : Byte) (s : State) : StepResult := modifyOp decrement (.mem (.zp z)) 5 s

/-- `DEC $nn,X` (D6), R149; 6 cycles. -/
def execDecZpx (z : Byte) (s : State) : StepResult := modifyOp decrement (.mem (.zpx z)) 6 s

/-- `DEC $nnnn` (CE), R149; 6 cycles. -/
def execDecAbs (addr : Word) (s : State) : StepResult := modifyOp decrement (.mem (.abs addr)) 6 s

/-- `DEC $nnnn,X` (DE), R149; 7 cycles. -/
def execDecAbx (base : Word) (s : State) : StepResult := modifyOp decrement (.mem (.abx base)) 7 s

/-- `DEX` (CA), R150; 2 cycles. -/
def execDex (s : State) : StepResult := impliedOp decrementX 2 s

/-- `DEY` (88), R151; 2 cycles. -/
def execDey (s : State) : StepResult := impliedOp decrementY 2 s
end Sys2Proof.Machine
end

