-- ==== Sys2Proof/Machine/Branch.lean ====
section
/-! DEFINITION. 43_branches_jumps.md: the eight conditional branches, JMP, JSR, RTS. -/

namespace Sys2Proof.Machine

/-- The conditional branch (R118, R180): `cycles` is the base count, one more when taken, one more again when the
target's page is not the next instruction's. -/
def branchOp (cond : Bool) (off : Byte) (cycles : Nat) (s : State) : StepResult :=
  let s1 := s.advance 2
  if cond then
    let target := s1.pc + sext16 off
    .next ((s1.setPc target).charge (cycles + (1 + if pageCrossed s1.pc target then 1 else 0)))
  else
    .next (s1.charge cycles)

/-- The jump (R189, R190): `PC <- ea`. -/
def jumpOp (m : AddrMode) (cycles : Nat) (s : State) : StepResult :=
  let t := resolveAddr m (s.advance m.length)
  .next ((t.st.setPc t.ea).charge cycles)

/-- The subroutine call (R191): pushes the address of the call's last byte, then jumps. -/
def callOp (m : AddrMode) (cycles : Nat) (s : State) : StepResult :=
  let t := resolveAddr m (s.advance m.length)
  .next (((pushWord (t.st.pc - 1#16) t.st).setPc t.ea).charge cycles)

/-- RTS's operation (R192). -/
def returnFromSubroutine (s : State) : State :=
  let ret := pullWord s
  ret.2.setPc (ret.1 + 1#16)

/-- `BCC label` (90), R181; 2 cycles + branch penalties. -/
def execBcc (off : Byte) (s : State) : StepResult := branchOp (!s.p.c) off 2 s

/-- `BCS label` (B0), R182; 2 cycles + branch penalties. -/
def execBcs (off : Byte) (s : State) : StepResult := branchOp (s.p.c) off 2 s

/-- `BEQ label` (F0), R183; 2 cycles + branch penalties. -/
def execBeq (off : Byte) (s : State) : StepResult := branchOp (s.p.z) off 2 s

/-- `BNE label` (D0), R184; 2 cycles + branch penalties. -/
def execBne (off : Byte) (s : State) : StepResult := branchOp (!s.p.z) off 2 s

/-- `BMI label` (30), R185; 2 cycles + branch penalties. -/
def execBmi (off : Byte) (s : State) : StepResult := branchOp (s.p.n) off 2 s

/-- `BPL label` (10), R186; 2 cycles + branch penalties. -/
def execBpl (off : Byte) (s : State) : StepResult := branchOp (!s.p.n) off 2 s

/-- `BVC label` (50), R187; 2 cycles + branch penalties. -/
def execBvc (off : Byte) (s : State) : StepResult := branchOp (!s.p.v) off 2 s

/-- `BVS label` (70), R188; 2 cycles + branch penalties. -/
def execBvs (off : Byte) (s : State) : StepResult := branchOp (s.p.v) off 2 s

/-- `JMP $nnnn` (4C), R189; 3 cycles. -/
def execJmpAbs (addr : Word) (s : State) : StepResult := jumpOp (.abs addr) 3 s

/-- `JMP ($nnnn)` (6C), R190; 5 cycles. -/
def execJmpInd (ptr : Word) (s : State) : StepResult := jumpOp (.ind ptr) 5 s

/-- `JSR $nnnn` (20), R191; 6 cycles. -/
def execJsr (addr : Word) (s : State) : StepResult := callOp (.abs addr) 6 s

/-- `RTS` (60), R192; 6 cycles. -/
def execRts (s : State) : StepResult := impliedOp returnFromSubroutine 6 s
end Sys2Proof.Machine
end

