-- ==== Sys2Proof/Machine/Logic.lean ====
section
/-! DEFINITION. 42_logic_shift.md: AND, ORA, EOR, BIT, ASL, LSR, ROL, ROR. -/

namespace Sys2Proof.Machine

/-- `A <- v; SetZN(A)`. -/
def State.setAZN (s : State) (v : Byte) : State := (s.setA v).setP (s.p.setZN v)

/-- AND's operation (R161). -/
def andA (m : Byte) (s : State) : State := s.setAZN (s.a &&& m)

/-- ORA's operation (R162). -/
def oraA (m : Byte) (s : State) : State := s.setAZN (s.a ||| m)

/-- EOR's operation (R163). -/
def eorA (m : Byte) (s : State) : State := s.setAZN (s.a ^^^ m)

/-- BIT's operation (R164). -/
def bitTest (m : Byte) (s : State) : State := s.setP (s.p.bitTest s.a m)

/-- `AND #$nn` (29), R161; 2 cycles. -/
def execAndImm (v : Byte) (s : State) : StepResult := readOp andA (.imm v) 2 false s

/-- `AND $nn` (25), R161; 3 cycles. -/
def execAndZp (z : Byte) (s : State) : StepResult := readOp andA (.mem (.zp z)) 3 false s

/-- `AND $nn,X` (35), R161; 4 cycles. -/
def execAndZpx (z : Byte) (s : State) : StepResult := readOp andA (.mem (.zpx z)) 4 false s

/-- `AND $nnnn` (2D), R161; 4 cycles. -/
def execAndAbs (addr : Word) (s : State) : StepResult := readOp andA (.mem (.abs addr)) 4 false s

/-- `AND $nnnn,X` (3D), R161; 4 cycles + page crossing. -/
def execAndAbx (base : Word) (s : State) : StepResult := readOp andA (.mem (.abx base)) 4 true s

/-- `AND $nnnn,Y` (39), R161; 4 cycles + page crossing. -/
def execAndAby (base : Word) (s : State) : StepResult := readOp andA (.mem (.aby base)) 4 true s

/-- `AND ($nn,X)` (21), R161; 6 cycles. -/
def execAndIzx (z : Byte) (s : State) : StepResult := readOp andA (.mem (.izx z)) 6 false s

/-- `AND ($nn),Y` (31), R161; 5 cycles + page crossing. -/
def execAndIzy (z : Byte) (s : State) : StepResult := readOp andA (.mem (.izy z)) 5 true s

/-- `ORA #$nn` (09), R162; 2 cycles. -/
def execOraImm (v : Byte) (s : State) : StepResult := readOp oraA (.imm v) 2 false s

/-- `ORA $nn` (05), R162; 3 cycles. -/
def execOraZp (z : Byte) (s : State) : StepResult := readOp oraA (.mem (.zp z)) 3 false s

/-- `ORA $nn,X` (15), R162; 4 cycles. -/
def execOraZpx (z : Byte) (s : State) : StepResult := readOp oraA (.mem (.zpx z)) 4 false s

/-- `ORA $nnnn` (0D), R162; 4 cycles. -/
def execOraAbs (addr : Word) (s : State) : StepResult := readOp oraA (.mem (.abs addr)) 4 false s

/-- `ORA $nnnn,X` (1D), R162; 4 cycles + page crossing. -/
def execOraAbx (base : Word) (s : State) : StepResult := readOp oraA (.mem (.abx base)) 4 true s

/-- `ORA $nnnn,Y` (19), R162; 4 cycles + page crossing. -/
def execOraAby (base : Word) (s : State) : StepResult := readOp oraA (.mem (.aby base)) 4 true s

/-- `ORA ($nn,X)` (01), R162; 6 cycles. -/
def execOraIzx (z : Byte) (s : State) : StepResult := readOp oraA (.mem (.izx z)) 6 false s

/-- `ORA ($nn),Y` (11), R162; 5 cycles + page crossing. -/
def execOraIzy (z : Byte) (s : State) : StepResult := readOp oraA (.mem (.izy z)) 5 true s

/-- `EOR #$nn` (49), R163; 2 cycles. -/
def execEorImm (v : Byte) (s : State) : StepResult := readOp eorA (.imm v) 2 false s

/-- `EOR $nn` (45), R163; 3 cycles. -/
def execEorZp (z : Byte) (s : State) : StepResult := readOp eorA (.mem (.zp z)) 3 false s

/-- `EOR $nn,X` (55), R163; 4 cycles. -/
def execEorZpx (z : Byte) (s : State) : StepResult := readOp eorA (.mem (.zpx z)) 4 false s

/-- `EOR $nnnn` (4D), R163; 4 cycles. -/
def execEorAbs (addr : Word) (s : State) : StepResult := readOp eorA (.mem (.abs addr)) 4 false s

/-- `EOR $nnnn,X` (5D), R163; 4 cycles + page crossing. -/
def execEorAbx (base : Word) (s : State) : StepResult := readOp eorA (.mem (.abx base)) 4 true s

/-- `EOR $nnnn,Y` (59), R163; 4 cycles + page crossing. -/
def execEorAby (base : Word) (s : State) : StepResult := readOp eorA (.mem (.aby base)) 4 true s

/-- `EOR ($nn,X)` (41), R163; 6 cycles. -/
def execEorIzx (z : Byte) (s : State) : StepResult := readOp eorA (.mem (.izx z)) 6 false s

/-- `EOR ($nn),Y` (51), R163; 5 cycles + page crossing. -/
def execEorIzy (z : Byte) (s : State) : StepResult := readOp eorA (.mem (.izy z)) 5 true s

/-- `BIT $nn` (24), R164; 3 cycles. -/
def execBitZp (z : Byte) (s : State) : StepResult := readOp bitTest (.mem (.zp z)) 3 false s

/-- `BIT $nnnn` (2C), R164; 4 cycles. -/
def execBitAbs (addr : Word) (s : State) : StepResult := readOp bitTest (.mem (.abs addr)) 4 false s

/-- `ASL A` (0A), R165; 2 cycles. -/
def execAslAcc (s : State) : StepResult := modifyOp shiftLeft .acc 2 s

/-- `ASL $nn` (06), R165; 5 cycles. -/
def execAslZp (z : Byte) (s : State) : StepResult := modifyOp shiftLeft (.mem (.zp z)) 5 s

/-- `ASL $nn,X` (16), R165; 6 cycles. -/
def execAslZpx (z : Byte) (s : State) : StepResult := modifyOp shiftLeft (.mem (.zpx z)) 6 s

/-- `ASL $nnnn` (0E), R165; 6 cycles. -/
def execAslAbs (addr : Word) (s : State) : StepResult := modifyOp shiftLeft (.mem (.abs addr)) 6 s

/-- `ASL $nnnn,X` (1E), R165; 7 cycles. -/
def execAslAbx (base : Word) (s : State) : StepResult := modifyOp shiftLeft (.mem (.abx base)) 7 s

/-- `LSR A` (4A), R166; 2 cycles. -/
def execLsrAcc (s : State) : StepResult := modifyOp shiftRight .acc 2 s

/-- `LSR $nn` (46), R166; 5 cycles. -/
def execLsrZp (z : Byte) (s : State) : StepResult := modifyOp shiftRight (.mem (.zp z)) 5 s

/-- `LSR $nn,X` (56), R166; 6 cycles. -/
def execLsrZpx (z : Byte) (s : State) : StepResult := modifyOp shiftRight (.mem (.zpx z)) 6 s

/-- `LSR $nnnn` (4E), R166; 6 cycles. -/
def execLsrAbs (addr : Word) (s : State) : StepResult := modifyOp shiftRight (.mem (.abs addr)) 6 s

/-- `LSR $nnnn,X` (5E), R166; 7 cycles. -/
def execLsrAbx (base : Word) (s : State) : StepResult := modifyOp shiftRight (.mem (.abx base)) 7 s

/-- `ROL A` (2A), R167; 2 cycles. -/
def execRolAcc (s : State) : StepResult := modifyOp rotateLeft .acc 2 s

/-- `ROL $nn` (26), R167; 5 cycles. -/
def execRolZp (z : Byte) (s : State) : StepResult := modifyOp rotateLeft (.mem (.zp z)) 5 s

/-- `ROL $nn,X` (36), R167; 6 cycles. -/
def execRolZpx (z : Byte) (s : State) : StepResult := modifyOp rotateLeft (.mem (.zpx z)) 6 s

/-- `ROL $nnnn` (2E), R167; 6 cycles. -/
def execRolAbs (addr : Word) (s : State) : StepResult := modifyOp rotateLeft (.mem (.abs addr)) 6 s

/-- `ROL $nnnn,X` (3E), R167; 7 cycles. -/
def execRolAbx (base : Word) (s : State) : StepResult := modifyOp rotateLeft (.mem (.abx base)) 7 s

/-- `ROR A` (6A), R168; 2 cycles. -/
def execRorAcc (s : State) : StepResult := modifyOp rotateRight .acc 2 s

/-- `ROR $nn` (66), R168; 5 cycles. -/
def execRorZp (z : Byte) (s : State) : StepResult := modifyOp rotateRight (.mem (.zp z)) 5 s

/-- `ROR $nn,X` (76), R168; 6 cycles. -/
def execRorZpx (z : Byte) (s : State) : StepResult := modifyOp rotateRight (.mem (.zpx z)) 6 s

/-- `ROR $nnnn` (6E), R168; 6 cycles. -/
def execRorAbs (addr : Word) (s : State) : StepResult := modifyOp rotateRight (.mem (.abs addr)) 6 s

/-- `ROR $nnnn,X` (7E), R168; 7 cycles. -/
def execRorAbx (base : Word) (s : State) : StepResult := modifyOp rotateRight (.mem (.abx base)) 7 s
end Sys2Proof.Machine
end

