-- ==== Sys2Proof/Machine/Stack.lean ====
section
/-! DEFINITION. 45_stack.md: PHA, PHP, PLA, PLP. -/

namespace Sys2Proof.Machine

/-- PHA's operation (R221). -/
def pushA (s : State) : State := push s.a s

/-- PHP's operation: bit 4 and bit 5 of the pushed byte are 1 (R222). -/
def pushP (s : State) : State := push (s.p.pack true) s

/-- PLA's operation (R223). -/
def pullA (s : State) : State :=
  let v := pull s
  (v.2.setA v.1).setP (v.2.p.setZN v.1)

/-- PLP's operation (R224). -/
def pullP (s : State) : State :=
  let v := pull s
  v.2.setP (v.2.p.unpack v.1)

/-- `PHA` (48), R221; 3 cycles. -/
def execPha (s : State) : StepResult := impliedOp pushA 3 s

/-- `PHP` (08), R222; 3 cycles. -/
def execPhp (s : State) : StepResult := impliedOp pushP 3 s

/-- `PLA` (68), R223; 4 cycles. -/
def execPla (s : State) : StepResult := impliedOp pullA 4 s

/-- `PLP` (28), R224; 4 cycles. -/
def execPlp (s : State) : StepResult := impliedOp pullP 4 s
end Sys2Proof.Machine
end

