-- ==== Sys2Proof/Machine/System.lean ====
section
/-! DEFINITION. 46_system.md: BRK, RTI, NOP, CLC, SEC, CLI, SEI, CLD, SED, CLV and the unimplemented operation. -/

namespace Sys2Proof.Machine

/-- BRK's operation (R231): PC points at the padding byte, the pushed address is the byte after it, the pushed P
has Break set, and the vector is IRQ's. The padding byte is not read (30_encoding.md R78). -/
def softwareInterrupt (s : State) : State := enterHandler (s.pc + 1#16) true Config.irqVector s

/-- RTI's operation (R232). -/
def returnFromInterrupt (s : State) : State := leaveHandler s

/-- NOP's operation (R233). -/
def noOperation (s : State) : State := s

/-- CLC's operation (R234). -/
def clearC (s : State) : State := s.setP { s.p with c := false }

/-- SEC's operation (R235). -/
def setC (s : State) : State := s.setP { s.p with c := true }

/-- CLI's operation (R236). -/
def clearI (s : State) : State := s.setP { s.p with i := false }

/-- SEI's operation (R237). -/
def setI (s : State) : State := s.setP { s.p with i := true }

/-- CLD's operation (R238). -/
def clearD (s : State) : State := s.setP { s.p with d := false }

/-- SED's operation (R239). -/
def setD (s : State) : State := s.setP { s.p with d := true }

/-- CLV's operation (R240). -/
def clearV (s : State) : State := s.setP { s.p with v := false }

/-- `BRK` (00), R231; 7 cycles. -/
def execBrk (s : State) : StepResult := impliedOp softwareInterrupt 7 s

/-- `RTI` (40), R232; 6 cycles. -/
def execRti (s : State) : StepResult := impliedOp returnFromInterrupt 6 s

/-- `NOP` (EA), R233; 2 cycles. -/
def execNop (s : State) : StepResult := impliedOp noOperation 2 s

/-- `CLC` (18), R234; 2 cycles. -/
def execClc (s : State) : StepResult := impliedOp clearC 2 s

/-- `SEC` (38), R235; 2 cycles. -/
def execSec (s : State) : StepResult := impliedOp setC 2 s

/-- `CLI` (58), R236; 2 cycles. -/
def execCli (s : State) : StepResult := impliedOp clearI 2 s

/-- `SEI` (78), R237; 2 cycles. -/
def execSei (s : State) : StepResult := impliedOp setI 2 s

/-- `CLD` (D8), R238; 2 cycles. -/
def execCld (s : State) : StepResult := impliedOp clearD 2 s

/-- `SED` (F8), R239; 2 cycles. -/
def execSed (s : State) : StepResult := impliedOp setD 2 s

/-- `CLV` (B8), R240; 2 cycles. -/
def execClv (s : State) : StepResult := impliedOp clearV 2 s
/-- ILL, R241: `raise UnimplementedOpcode(opcode)`; "the step that raises it changes nothing". -/
def execIll (opcode : Byte) (_s : State) : StepResult := .fault (.unimplementedOpcode opcode)

end Sys2Proof.Machine
end

