-- ==== Sys2Proof/Machine/Transfer.lean ====
section
/-! DEFINITION. 44_transfers.md: LDA, LDX, LDY, STA, STX, STY, TAX, TAY, TXA, TYA, TSX, TXS. -/

namespace Sys2Proof.Machine

/-- LDA's operation (R201). -/
def loadA (m : Byte) (s : State) : State := (s.setA m).setP (s.p.setZN m)

/-- LDX's operation (R202). -/
def loadX (m : Byte) (s : State) : State := (s.setX m).setP (s.p.setZN m)

/-- LDY's operation (R203). -/
def loadY (m : Byte) (s : State) : State := (s.setY m).setP (s.p.setZN m)

/-- TAX's operation (R207). -/
def transferAX (s : State) : State := loadX s.a s

/-- TAY's operation (R208). -/
def transferAY (s : State) : State := loadY s.a s

/-- TXA's operation (R209). -/
def transferXA (s : State) : State := loadA s.x s

/-- TYA's operation (R210). -/
def transferYA (s : State) : State := loadA s.y s

/-- TSX's operation (R211). -/
def transferSX (s : State) : State := loadX s.sp s

/-- TXS's operation, which writes no flag (R212). -/
def transferXS (s : State) : State := s.setSp s.x

/-- `LDA #$nn` (A9), R201; 2 cycles. -/
def execLdaImm (v : Byte) (s : State) : StepResult := readOp loadA (.imm v) 2 false s

/-- `LDA $nn` (A5), R201; 3 cycles. -/
def execLdaZp (z : Byte) (s : State) : StepResult := readOp loadA (.mem (.zp z)) 3 false s

/-- `LDA $nn,X` (B5), R201; 4 cycles. -/
def execLdaZpx (z : Byte) (s : State) : StepResult := readOp loadA (.mem (.zpx z)) 4 false s

/-- `LDA $nnnn` (AD), R201; 4 cycles. -/
def execLdaAbs (addr : Word) (s : State) : StepResult := readOp loadA (.mem (.abs addr)) 4 false s

/-- `LDA $nnnn,X` (BD), R201; 4 cycles + page crossing. -/
def execLdaAbx (base : Word) (s : State) : StepResult := readOp loadA (.mem (.abx base)) 4 true s

/-- `LDA $nnnn,Y` (B9), R201; 4 cycles + page crossing. -/
def execLdaAby (base : Word) (s : State) : StepResult := readOp loadA (.mem (.aby base)) 4 true s

/-- `LDA ($nn,X)` (A1), R201; 6 cycles. -/
def execLdaIzx (z : Byte) (s : State) : StepResult := readOp loadA (.mem (.izx z)) 6 false s

/-- `LDA ($nn),Y` (B1), R201; 5 cycles + page crossing. -/
def execLdaIzy (z : Byte) (s : State) : StepResult := readOp loadA (.mem (.izy z)) 5 true s

/-- `LDX #$nn` (A2), R202; 2 cycles. -/
def execLdxImm (v : Byte) (s : State) : StepResult := readOp loadX (.imm v) 2 false s

/-- `LDX $nn` (A6), R202; 3 cycles. -/
def execLdxZp (z : Byte) (s : State) : StepResult := readOp loadX (.mem (.zp z)) 3 false s

/-- `LDX $nn,Y` (B6), R202; 4 cycles. -/
def execLdxZpy (z : Byte) (s : State) : StepResult := readOp loadX (.mem (.zpy z)) 4 false s

/-- `LDX $nnnn` (AE), R202; 4 cycles. -/
def execLdxAbs (addr : Word) (s : State) : StepResult := readOp loadX (.mem (.abs addr)) 4 false s

/-- `LDX $nnnn,Y` (BE), R202; 4 cycles + page crossing. -/
def execLdxAby (base : Word) (s : State) : StepResult := readOp loadX (.mem (.aby base)) 4 true s

/-- `LDY #$nn` (A0), R203; 2 cycles. -/
def execLdyImm (v : Byte) (s : State) : StepResult := readOp loadY (.imm v) 2 false s

/-- `LDY $nn` (A4), R203; 3 cycles. -/
def execLdyZp (z : Byte) (s : State) : StepResult := readOp loadY (.mem (.zp z)) 3 false s

/-- `LDY $nn,X` (B4), R203; 4 cycles. -/
def execLdyZpx (z : Byte) (s : State) : StepResult := readOp loadY (.mem (.zpx z)) 4 false s

/-- `LDY $nnnn` (AC), R203; 4 cycles. -/
def execLdyAbs (addr : Word) (s : State) : StepResult := readOp loadY (.mem (.abs addr)) 4 false s

/-- `LDY $nnnn,X` (BC), R203; 4 cycles + page crossing. -/
def execLdyAbx (base : Word) (s : State) : StepResult := readOp loadY (.mem (.abx base)) 4 true s

/-- `STA $nn` (85), R204; 3 cycles. -/
def execStaZp (z : Byte) (s : State) : StepResult := storeOp s.a (.zp z) 3 s

/-- `STA $nn,X` (95), R204; 4 cycles. -/
def execStaZpx (z : Byte) (s : State) : StepResult := storeOp s.a (.zpx z) 4 s

/-- `STA $nnnn` (8D), R204; 4 cycles. -/
def execStaAbs (addr : Word) (s : State) : StepResult := storeOp s.a (.abs addr) 4 s

/-- `STA $nnnn,X` (9D), R204; 5 cycles. -/
def execStaAbx (base : Word) (s : State) : StepResult := storeOp s.a (.abx base) 5 s

/-- `STA $nnnn,Y` (99), R204; 5 cycles. -/
def execStaAby (base : Word) (s : State) : StepResult := storeOp s.a (.aby base) 5 s

/-- `STA ($nn,X)` (81), R204; 6 cycles. -/
def execStaIzx (z : Byte) (s : State) : StepResult := storeOp s.a (.izx z) 6 s

/-- `STA ($nn),Y` (91), R204; 6 cycles. -/
def execStaIzy (z : Byte) (s : State) : StepResult := storeOp s.a (.izy z) 6 s

/-- `STX $nn` (86), R205; 3 cycles. -/
def execStxZp (z : Byte) (s : State) : StepResult := storeOp s.x (.zp z) 3 s

/-- `STX $nn,Y` (96), R205; 4 cycles. -/
def execStxZpy (z : Byte) (s : State) : StepResult := storeOp s.x (.zpy z) 4 s

/-- `STX $nnnn` (8E), R205; 4 cycles. -/
def execStxAbs (addr : Word) (s : State) : StepResult := storeOp s.x (.abs addr) 4 s

/-- `STY $nn` (84), R206; 3 cycles. -/
def execStyZp (z : Byte) (s : State) : StepResult := storeOp s.y (.zp z) 3 s

/-- `STY $nn,X` (94), R206; 4 cycles. -/
def execStyZpx (z : Byte) (s : State) : StepResult := storeOp s.y (.zpx z) 4 s

/-- `STY $nnnn` (8C), R206; 4 cycles. -/
def execStyAbs (addr : Word) (s : State) : StepResult := storeOp s.y (.abs addr) 4 s

/-- `TAX` (AA), R207; 2 cycles. -/
def execTax (s : State) : StepResult := impliedOp transferAX 2 s

/-- `TAY` (A8), R208; 2 cycles. -/
def execTay (s : State) : StepResult := impliedOp transferAY 2 s

/-- `TXA` (8A), R209; 2 cycles. -/
def execTxa (s : State) : StepResult := impliedOp transferXA 2 s

/-- `TYA` (98), R210; 2 cycles. -/
def execTya (s : State) : StepResult := impliedOp transferYA 2 s

/-- `TSX` (BA), R211; 2 cycles. -/
def execTsx (s : State) : StepResult := impliedOp transferSX 2 s

/-- `TXS` (9A), R212; 2 cycles. -/
def execTxs (s : State) : StepResult := impliedOp transferXS 2 s
end Sys2Proof.Machine
end

