-- ==== Sys2Proof/Machine/Step.lean ====
section
/-! DEFINITION. The step of 40_step_and_addressing.md R101. -/

namespace Sys2Proof.Machine

/-- One step: an NMI service, else an IRQ service, else the instruction at PC (40_step_and_addressing.md R101,
60_exceptions.md R259). The record of bus transactions starts afresh. -/
def step (s : State) : Host.Outcome State Fault Refusal :=
  let s0 := s.clearBus
  if s0.nmiPending then .next (serviceNmi s0)
  else if irqServiceable s0 then .next (serviceIrq s0)
  else
    let f := fetch s0
    exec f.1 f.2

/-- The state with the instruction whose bits are `w` where the next step fetches it (log entry 8). -/
def State.withFetchWord (s : State) (nbits w : Nat) : State := placeInstruction (tableBytes nbits w) s

end Sys2Proof.Machine
end

