-- ==== Sys2Proof/Machine/HostOps.lean ====
section
/-! DEFINITION. What the host may do at a step boundary (70_reset_and_hazards.md R285), each a function on State.
`step` itself is Step.lean's. -/

namespace Sys2Proof.Machine

/-- `reset()` (70_reset_and_hazards.md R280): the same at construction and on request (R281); memory and the
count of free values taken stay as they are. -/
def hostReset (s : State) : State :=
  let s1 : State :=
    { a := 0x00#8, x := 0x00#8, y := 0x00#8, sp := 0xFD#8, pc := s.pc, p := Status.reset
      nmiPending := false, irqPending := false, cycles := 0, mem := s.mem, draws := s.draws, bus := [] }
  let target := read16 Config.resetVector s1
  target.2.setPc target.1

/-- `trigger_irq()` (10_state.md R21). -/
def triggerIrq (s : State) : State := s.setIrq true

/-- `trigger_nmi()` (10_state.md R21). -/
def triggerNmi (s : State) : State := s.setNmi true

/-- The errors of `load_program` (20_memory.md R61, 60_exceptions.md R252). -/
inductive LoadError where
  /-- The bytes would not fit between `origin` and $FFFF. -/
  | programTooLarge
deriving DecidableEq, Repr

/-- `load_program(bytes, origin)`: all or nothing; storage is written directly, ROM included, bytes aimed at stub
or unmapped addresses are discarded, no register changes (20_memory.md R61). -/
def loadProgram (bytes : List Byte) (origin : Word) (s : State) : Except LoadError State :=
  if 0x10000 < origin.toNat + bytes.length then .error .programTooLarge
  else .ok (placeBytes bytes origin s)

/-- The host's memory `read(address)`: as `MemRead` (70_reset_and_hazards.md R285). -/
def hostRead (addr : Word) (s : State) : Byte × State := memRead addr s

/-- The host's memory `write(address, value)`: as `MemWrite` (70_reset_and_hazards.md R285). -/
def hostWrite (addr : Word) (v : Byte) (s : State) : State := memWrite addr v s

/-- What a register accessor returns (10_state.md R29). -/
inductive Accessed where
  | byte (v : Byte)
  | word (v : Word)
  | bit (v : Bool)
deriving DecidableEq, Repr

/-- The register accessors "A, X, Y, PC, SP, each flag" (10_state.md R29). -/
inductive Accessor where
  | a | x | y | pc | sp
  | flag (f : Flag)
deriving DecidableEq, Repr

/-- Reads a register or a flag; nothing changes (10_state.md R29). -/
def hostAccess (r : Accessor) (s : State) : Accessed :=
  match r with
  | .a => .byte s.a
  | .x => .byte s.x
  | .y => .byte s.y
  | .pc => .word s.pc
  | .sp => .byte s.sp
  | .flag f => .bit (s.p.get f)

/-- The disassembly view at an address: the mnemonic and the operand as the fetch there would read them. It
"never mutates state" (30_encoding.md R80); the text format is not given (91_not_in_source.md N15; log entry 10). -/
def disassemblyAt (addr : Word) (s : State) : Mnemonic × Form :=
  let i := (fetchAt addr s).1
  (i.mnemonic, i.form)

/-! ## Runs -/

/-- How a run comes out (70_reset_and_hazards.md R286). -/
inductive RunOutcome where
  /-- The run has ended: `stop` holds at this step boundary. -/
  | ended (s : State)
  /-- The run was cut short by a fault, which "is never an end of run". -/
  | faulted (f : Fault)
  /-- The run met an instruction without a meaning; no step does. -/
  | refused (r : Refusal)
  /-- The MODEL's own: the bound on the number of steps was reached first, in this state (log entry 11). -/
  | unfinished (s : State)
deriving DecidableEq, Repr

/-- A run with the end-of-run predicate `stop`, "a predicate on states at step boundaries" that is left open (D24,
70_reset_and_hazards.md R286): an argument, so that every claim names its own. `stop` is asked at every boundary, the
first one included, and a step is taken where it does not hold; `fuel` bounds the number of steps (log entry 11). -/
def runUntil (stop : State → Bool) : Nat → State → RunOutcome
  | 0, s => if stop s then .ended s else .unfinished s
  | fuel + 1, s =>
    if stop s then .ended s
    else
      match step s with
      | .next s' => runUntil stop fuel s'
      | .fault f => .faulted f
      | .refused r => .refused r

/-- `run`: "ends only when a step faults", so its `stop` never holds (40_step_and_addressing.md R123; log entry 11). -/
def run (fuel : Nat) (s : State) : RunOutcome := runUntil (fun _ => false) fuel s

/-- The end condition of the programs of 95_test_vectors.md: "the first step boundary at which PC equals the address
of that JMP" (70_reset_and_hazards.md R286). -/
def atAddress (addr : Word) (s : State) : Bool := s.pc == addr

end Sys2Proof.Machine
end

