-- ==== Sys2Proof/Safety.lean ====
section
/-! DEFINITION. The terms that claims use: the invariant of a safe state, and the tables of the spec that the
claims hold the meanings against (timing, written flags, written registers, stored bytes, transactions). None of
these is used by the machine itself. -/

namespace Sys2Proof.Claims

open Sys2Proof.Machine

/-- The invariant: memory keeps its canonical form. The widths of 10_state.md R27 hold by the types, and bit 5 of
P reads 1 by construction (R15). -/
abbrev Inv (s : State) : Prop := s.mem.wf

/-- A safe step: the machine goes on. -/
def GoesOn (s : State) : Prop := ∃ t, step s = .next t

/-! ## Flags -/

/-- `SetZN(v)`, said on numbers: Z iff the byte is 0, N iff it is at least 128 (10_state.md R16). -/
def zn (p : Status) (v : Byte) : Status :=
  { p with z := decide (v.toNat = 0), n := decide (128 ≤ v.toNat) }

/-- The condition each branch tests (43_branches_jumps.md R181 to R188). -/
def branchCondition : Mnemonic → Status → Option Bool
  | .bcc, p => some (!p.c)
  | .bcs, p => some p.c
  | .beq, p => some p.z
  | .bne, p => some (!p.z)
  | .bmi, p => some p.n
  | .bpl, p => some (!p.n)
  | .bvc, p => some (!p.v)
  | .bvs, p => some p.v
  | _, _ => none

/-- The instructions of the column "written by" of 10_state.md R14, by flag. -/
def flagWriters : Flag → List Mnemonic
  | .C => [.adc, .sbc, .cmp, .cpx, .cpy, .asl, .lsr, .rol, .ror, .clc, .sec, .plp, .rti]
  | .Z => [.adc, .sbc, .cmp, .cpx, .cpy, .inc, .inx, .iny, .dec, .dex, .dey, .and, .ora, .eor, .bit]
    ++ [.asl, .lsr, .rol, .ror, .lda, .ldx, .ldy, .tax, .tay, .txa, .tya, .tsx, .pla, .plp, .rti]
  | .I => [.sei, .cli, .plp, .rti, .brk]
  | .D => [.sed, .cld, .plp, .rti]
  | .B => []
  | .U => []
  | .V => [.adc, .sbc, .bit, .clv, .plp, .rti]
  | .N => [.adc, .sbc, .cmp, .cpx, .cpy, .inc, .inx, .iny, .dec, .dex, .dey, .and, .ora, .eor, .bit]
    ++ [.asl, .lsr, .rol, .ror, .lda, .ldx, .ldy, .tax, .tay, .txa, .tya, .tsx, .pla, .plp, .rti]

/-! ## Registers -/

/-- The instructions that write A: its destinations in 10_state.md R10 and, in the ACC form alone, the shifts. -/
def writesA (i : Instr) : Bool :=
  [Mnemonic.adc, .sbc, .and, .ora, .eor, .lda, .pla, .txa, .tya].contains i.mnemonic || i.form == .acc

/-- The instructions that write X (10_state.md R10). -/
def writesX (i : Instr) : Bool := [Mnemonic.ldx, .tax, .tsx, .inx, .dex].contains i.mnemonic

/-- The instructions that write Y (10_state.md R10). -/
def writesY (i : Instr) : Bool := [Mnemonic.ldy, .tay, .iny, .dey].contains i.mnemonic

/-- How far an instruction moves SP, modulo 256, TXS apart (10_state.md R12). -/
def spMove : Mnemonic → Byte
  | .pha => -1
  | .php => -1
  | .pla => 1
  | .plp => 1
  | .jsr => -2
  | .rts => 2
  | .brk => -3
  | .rti => 3
  | _ => 0

/-- The instructions that write PC otherwise than by moving past their own bytes (10_state.md R11). -/
def transfersControl (i : Instr) : Bool :=
  [Mnemonic.bcc, .bcs, .beq, .bne, .bmi, .bpl, .bvc, .bvs, .jmp, .jsr, .rts, .brk, .rti].contains i.mnemonic

/-! ## Timing -/

/-- The rows of the timing table of 70_reset_and_hazards.md R289. -/
inductive TimingClass where
  /-- Loads, ADC, SBC, AND, ORA, EOR, CMP, CPX, CPY, BIT. -/
  | load
  /-- STA, STX, STY. -/
  | store
  /-- ASL, LSR, ROL, ROR, INC, DEC. -/
  | modify
  /-- One number for the mnemonic. -/
  | fixed (n : Nat)
deriving DecidableEq, Repr

/-- The class of each mnemonic in R289; "register-only" is 2. -/
def timingClass : Mnemonic → TimingClass
  | .adc => .load | .sbc => .load | .cmp => .load | .cpx => .load | .cpy => .load
  | .and => .load | .ora => .load | .eor => .load | .bit => .load
  | .lda => .load | .ldx => .load | .ldy => .load
  | .sta => .store | .stx => .store | .sty => .store
  | .inc => .modify | .dec => .modify | .asl => .modify | .lsr => .modify | .rol => .modify | .ror => .modify
  | .inx => .fixed 2 | .iny => .fixed 2 | .dex => .fixed 2 | .dey => .fixed 2
  | .tax => .fixed 2 | .tay => .fixed 2 | .txa => .fixed 2 | .tya => .fixed 2 | .tsx => .fixed 2 | .txs => .fixed 2
  | .nop => .fixed 2 | .clc => .fixed 2 | .sec => .fixed 2 | .cli => .fixed 2 | .sei => .fixed 2
  | .cld => .fixed 2 | .sed => .fixed 2 | .clv => .fixed 2
  | .bcc => .fixed 2 | .bcs => .fixed 2 | .beq => .fixed 2 | .bne => .fixed 2
  | .bmi => .fixed 2 | .bpl => .fixed 2 | .bvc => .fixed 2 | .bvs => .fixed 2
  | .pha => .fixed 3 | .php => .fixed 3 | .pla => .fixed 4 | .plp => .fixed 4
  | .jsr => .fixed 6 | .rts => .fixed 6 | .rti => .fixed 6 | .brk => .fixed 7
  | .jmp => .fixed 0
  | .ill => .fixed 0

/-- The column of R289 for a mode that yields an address, by class; IND is JMP's alone. -/
def memoryCycles : TimingClass → AddrMode → Nat
  | .load, .zp _ => 3
  | .load, .zpx _ => 4
  | .load, .zpy _ => 4
  | .load, .abs _ => 4
  | .load, .abx _ => 4
  | .load, .aby _ => 4
  | .load, .izx _ => 6
  | .load, .izy _ => 5
  | .store, .zp _ => 3
  | .store, .zpx _ => 4
  | .store, .zpy _ => 4
  | .store, .abs _ => 4
  | .store, .abx _ => 5
  | .store, .aby _ => 5
  | .store, .izx _ => 6
  | .store, .izy _ => 6
  | .modify, .zp _ => 5
  | .modify, .zpx _ => 6
  | .modify, .abs _ => 6
  | .modify, .abx _ => 7
  | _, _ => 0

/-- Base cycles of an instruction by R289: by class and mode, "JMP ABS 3, JMP IND 5" individually. -/
def baseCycles (i : Instr) : Nat :=
  match timingClass i.mnemonic, i.form with
  | .fixed n, .mem (.abs _) => if i.mnemonic = .jmp then 3 else n
  | .fixed n, .mem (.ind _) => if i.mnemonic = .jmp then 5 else n
  | .fixed n, _ => n
  | .load, .imm _ => 2
  | .modify, .acc => 2
  | c, .mem m => memoryCycles c m
  | _, _ => 0

/-- The entries marked `+`: "the ABX, ABY and IZY forms of ADC, AND, CMP, EOR, LDA, ORA, SBC, the ABY form of LDX
and the ABX form of LDY" (40_step_and_addressing.md R104). -/
def markedPlus (i : Instr) : Bool :=
  match i.form with
  | .mem (.abx _) => [Mnemonic.adc, .and, .cmp, .eor, .lda, .ora, .sbc, .ldy].contains i.mnemonic
  | .mem (.aby _) => [Mnemonic.adc, .and, .cmp, .eor, .lda, .ora, .sbc, .ldx].contains i.mnemonic
  | .mem (.izy _) => [Mnemonic.adc, .and, .cmp, .eor, .lda, .ora, .sbc].contains i.mnemonic
  | _ => false

/-- Cycles of an instruction that is no branch: base, and one more on a page crossing where marked (R104). -/
def rowCycles (i : Instr) (crossed : Bool) : Nat :=
  baseCycles i + if markedPlus i = true ∧ crossed = true then 1 else 0

/-! ## What an instruction stores and transacts -/

/-- The address that a mode yields in the state an instruction resolves it in: PC past the instruction. -/
def target (i : Instr) (m : AddrMode) (s : State) : Resolution := resolveAddr m (s.advance i.length)

/-- The addresses an instruction writes, in order: a store or a read-modify-write writes its effective address
(20_memory.md R46), PHA and PHP one stack slot, JSR two, BRK three (10_state.md R12). -/
def storeAddresses (i : Instr) (s : State) : List Word :=
  match i.mnemonic, i.form with
  | .sta, .mem m => [(target i m s).ea]
  | .stx, .mem m => [(target i m s).ea]
  | .sty, .mem m => [(target i m s).ea]
  | .inc, .mem m => [(target i m s).ea]
  | .dec, .mem m => [(target i m s).ea]
  | .asl, .mem m => [(target i m s).ea]
  | .lsr, .mem m => [(target i m s).ea]
  | .rol, .mem m => [(target i m s).ea]
  | .ror, .mem m => [(target i m s).ea]
  | .pha, _ => [stackAddr s.sp]
  | .php, _ => [stackAddr s.sp]
  | .jsr, _ => [stackAddr s.sp, stackAddr (s.sp - 1#8)]
  | .brk, _ => [stackAddr s.sp, stackAddr (s.sp - 1#8), stackAddr (s.sp - 2#8)]
  | _, _ => []

/-- A transaction without its value: whether it writes, and its address. -/
def kindOf : Transaction → Bool × Word
  | .read addr _ => (false, addr)
  | .write addr _ => (true, addr)

/-- The pointer bytes a mode reads, low then high (40_step_and_addressing.md R115 to R117, R120). -/
def pointerReads (m : AddrMode) (s : State) : List (Bool × Word) :=
  match m with
  | .ind ptr => [(false, ptr), (false, mkWord (hiByte ptr) (loByte ptr + 1#8))]
  | .izx z => [(false, zext16 (z + s.x)), (false, zext16 (z + s.x + 1#8))]
  | .izy z => [(false, zext16 z), (false, zext16 (z + 1#8))]
  | _ => []

/-- The data transactions of an instruction after its own bytes have been fetched, in the order of
40_step_and_addressing.md R120: pointer bytes, then the instruction's own (20_memory.md R46), then vector bytes.
-/
def transactions (i : Instr) (s : State) : List (Bool × Word) :=
  match timingClass i.mnemonic, i.form with
  | .load, .mem m => pointerReads m s ++ [(false, (target i m s).ea)]
  | .store, .mem m => pointerReads m s ++ [(true, (target i m s).ea)]
  | .modify, .mem m => pointerReads m s ++ [(false, (target i m s).ea), (true, (target i m s).ea)]
  | .fixed _, .mem m => pointerReads m s ++ (storeAddresses i s).map (fun w => (true, w))
  | _, _ =>
    match i.mnemonic with
    | .pla => [(false, stackAddr (s.sp + 1#8))]
    | .plp => [(false, stackAddr (s.sp + 1#8))]
    | .rts => [(false, stackAddr (s.sp + 1#8)), (false, stackAddr (s.sp + 2#8))]
    | .rti => [(false, stackAddr (s.sp + 1#8)), (false, stackAddr (s.sp + 2#8)), (false, stackAddr (s.sp + 3#8))]
    | .brk => (storeAddresses i s).map (fun w => (true, w)) ++ [(false, 0xFFFE#16), (false, 0xFFFF#16)]
    | _ => (storeAddresses i s).map (fun w => (true, w))

/-- The transactions that fetch `n` bytes of an instruction at PC (40_step_and_addressing.md R102, R120). -/
def fetchReads (pc : Word) : Nat → List (Bool × Word)
  | 0 => []
  | n + 1 => fetchReads pc n ++ [(false, pc + BitVec.ofNat 16 n)]

/-! ## Comparing runs -/

/-- Applies a function to the state of an outcome that has one. -/
def mapNext (f : State → State) : StepResult → StepResult
  | .next s => .next (f s)
  | .fault r => .fault r
  | .refused r => .refused r

/-- The state with the cycle counter blanked. -/
def withoutCycles (s : State) : State := { s with cycles := 0 }

end Sys2Proof.Claims
end

