-- ==== Sys2Proof/Certificates/Slice0/Obligations.lean ====
section
/-! DEFINITION. The statements for the provers. Each docstring names the rule of spec/ that the statement
formalises; the tables they use are Safety.lean's. -/

open Sys2Proof Sys2Proof.Machine Sys2Proof.Claims

namespace Sys2Proof.Claims

/-- The next state of an instruction whose operand is loaded and which writes A and P. -/
def afterLoadA (i : Instr) (l : Loaded) (s : State) (a : Byte) (p : Status) : State :=
  { l.st with a := a, p := p, cycles := s.cycles + rowCycles i l.crossed }

/-- The operand of an instruction that reads `src`: loaded in the state whose PC is past the instruction. -/
def operand (i : Instr) (src : Source) (s : State) : Loaded := loadSource src (s.advance i.length)

/-- The next state of a compare of register value `r`: C iff `r >= M` unsigned, Z and N from the 8-bit
difference (41_arithmetic.md R143 to R145). -/
def afterCompare (i : Instr) (l : Loaded) (s : State) (r : Byte) : State :=
  { l.st with
    p := zn { s.p with c := decide (l.val.toNat ≤ r.toNat) } (BitVec.ofInt 8 (r.toNat - l.val.toNat))
    cycles := s.cycles + rowCycles i l.crossed }

/-- The next state of a read-modify-write whose new byte and carry are `op` of the old byte and carry: one read
then one write of ea, or A in the ACC form (40_step_and_addressing.md R119, 20_memory.md R46). -/
def afterModify (op : Byte → Bool → Byte × Bool) (i : Instr) (pl : Place) (s : State) : State :=
  match pl with
  | .acc =>
    let r := op s.a s.p.c
    { s.advance i.length with
      a := r.1, p := zn { s.p with c := r.2 } r.1, cycles := s.cycles + baseCycles i }
  | .mem m =>
    let t := target i m s
    let d := memRead t.ea t.st
    let r := op d.1 s.p.c
    { memWrite t.ea r.1 d.2 with p := zn { s.p with c := r.2 } r.1, cycles := s.cycles + baseCycles i }

/-- The next state of an instruction with no operand that changes registers alone and takes 2 cycles. -/
def afterRegister (s : State) (f : State → State) : State :=
  f { s with pc := s.pc + 1#16, cycles := s.cycles + 2 }

/-- `0x0100 + SP` (10_state.md R12). -/
def slot (sp : Byte) : Word := 0x0100#16 + sp.setWidth 16

/-- Writes three bytes from the slot of SP downwards. -/
def write3 (v1 v2 v3 : Byte) (s : State) : State :=
  memWrite (slot (s.sp - 2#8)) v3 (memWrite (slot (s.sp - 1#8)) v2 (memWrite (slot s.sp) v1 s))

/-- The 16-bit value of the stored bytes at the two addresses, high byte first. -/
def storedWord (s : State) (hiAddr loAddr : Word) : Word := s.stored hiAddr ++ s.stored loAddr

end Sys2Proof.Claims


/-- O1. PackP lays the flags out by weight; load_byte(as_byte()) gives the status back; bit 5 reads 1; set(U, false) has no effect
For every status p, bit b and byte v: PackP(b) is N*128 + V*64 + 32 + b*16 + D*8 + I*4 + Z*2 + C and as_byte is PackP(P.B); load_byte(as_byte(p)) = p; as_byte after load_byte(v) is v with bit 5 set; get after set gives the value set for every flag but U, and leaves every other flag; U always reads 1 and setting it changes nothing. The clause on set(U, false) is the inference the spec marks "derived: from rule R15" in R20.
Basis: derived, 10_state.md R13, 10_state.md R15, 10_state.md R18, 10_state.md section 2, Status Register component, 95_test_vectors.md S3. -/
def Obligations.StatusByteRoundTrip : Prop :=
  ∀ (p : Status) (v : Byte) (f g : Flag) (b on : Bool),
    (p.pack b).toNat = p.n.toNat * 128 + p.v.toNat * 64 + 32 + b.toNat * 16 + p.d.toNat * 8
      + p.i.toNat * 4 + p.z.toNat * 2 + p.c.toNat
    ∧ p.asByte = p.pack p.b
    ∧ p.loadByte p.asByte = p
    ∧ (p.loadByte v).asByte = v ||| 0x20#8
    ∧ (p.set f on).get g = (if g = .U then true else if g = f then on else p.get g)
    ∧ p.set .U on = p

/-- O2. A pull of P loads N V D I Z C from bits 7 6 3 2 1 0, keeps the stored B and ignores bits 5 and 4
For every status p and pulled byte v, UnpackP(v) has N = v[7], V = v[6], D = v[3], I = v[2], Z = v[1], C = v[0] and B as before; two bytes that agree but for bits 5 and 4 unpack alike. Keeping B is the decision the spec marks D4.
Basis: derived, 92_eei_decisions.md D4, 10_state.md section 2, UnpackP. -/
def Obligations.UnpackKeepsBreak : Prop :=
  ∀ (p : Status) (v w : Byte),
    p.unpack v = { n := v.getLsbD 7, v := v.getLsbD 6, b := p.b, d := v.getLsbD 3, i := v.getLsbD 2,
                   z := v.getLsbD 1, c := v.getLsbD 0 }
    ∧ (v &&& 0xCF#8 = w &&& 0xCF#8 → p.unpack v = p.unpack w)

/-- O3. The four appearances of internal RAM are one storage
For every k below $0800 and every state: the reads at $0000+k, $0800+k, $1000+k and $1800+k give the same byte, and a write through any one of the four is what a read through each of the four then gives.
Basis: stated, R54. -/
def Obligations.RamMirrorsShareOneByte : Prop :=
  ∀ (s : State) (v : Byte) (k : Nat), k < 0x800 →
    ∀ m n : Fin 4,
      (memRead (BitVec.ofNat 16 (m * 0x800 + k)) s).1 = (memRead (BitVec.ofNat 16 (n * 0x800 + k)) s).1
      ∧ (memRead (BitVec.ofNat 16 (m * 0x800 + k)) (memWrite (BitVec.ofNat 16 (n * 0x800 + k)) v s)).1 = v

/-- O4. Every address lies in the one region the map of R52 gives it, and canon follows R53
For every address a: its region is RAM up to $1FFF, PPU up to $3FFF, APU up to $4017, APU test up to $401F, unmapped up to $5FFF, PRG RAM up to $7FFF and PRG ROM above; its canonical address is a mod $0800, $2000 + a mod 8, or a itself. That PRG ROM fills $8000 to $FFFF is the model's choice of the default of D18 (log entry 4).
Basis: derived, 20_memory.md R52, 20_memory.md R53, 92_eei_decisions.md D18. -/
def Obligations.AddressMapByRange : Prop :=
  ∀ a : Word,
    region a = (if a.toNat ≤ 0x1FFF then Region.ram else if a.toNat ≤ 0x3FFF then .ppu
      else if a.toNat ≤ 0x4017 then .apu else if a.toNat ≤ 0x401F then .apuTest
      else if a.toNat ≤ 0x5FFF then .unmapped else if a.toNat ≤ 0x7FFF then .prgRam else .prgRom)
    ∧ (canon a).toNat = (if a.toNat ≤ 0x1FFF then a.toNat % 0x800
      else if a.toNat ≤ 0x3FFF then 0x2000 + a.toNat % 8 else a.toNat)

/-- O5. A read after a write gives the byte written where the core may write, and what was there before everywhere else
For every state, address a, byte v and address b that storage backs: after MemWrite(a, v), MemRead(b) gives v if a is in internal RAM or PRG RAM and b has the canonical address of a, and otherwise what it gave before; so a write to PRG ROM, a stub or an unmapped address changes no storage and raises nothing (D11).
Basis: derived, 20_memory.md R47, 20_memory.md R53, 92_eei_decisions.md D11. -/
def Obligations.ReadAfterWrite : Prop :=
  ∀ (s : State) (a b : Word) (v : Byte), (region b).isStorage = true →
    (memRead b (memWrite a v s)).1
      = if (region a = .ram ∨ region a = .prgRam) ∧ canon b = canon a then v else (memRead b s).1

/-- O6. A read of a stub or unmapped address gives a fresh draw and changes nothing else
For every state and every address from $2000 to $5FFF: the read gives the next draw, the count of draws goes up by one, memory and every register stay, and a second read of the same address gives the draw after it. Reading as a draw is the decision D11; the counter is the model's own (log entry 2).
Basis: derived, 92_eei_decisions.md D11, 93_implementation_defined.md U1, U4, U5. -/
def Obligations.UnbackedReadIsAFreshDraw : Prop :=
  ∀ (s : State) (a b : Word), 0x2000 ≤ a.toNat → a.toNat ≤ 0x5FFF →
    (memRead a s).1 = Config.draw s.draws
    ∧ (memRead a (memRead a s).2).1 = Config.draw (s.draws + 1)
    ∧ (memRead a s).2
        = { s with draws := s.draws + 1, bus := s.bus ++ [.read a (Config.draw s.draws)] }
    ∧ (memRead a s).2.stored b = s.stored b

/-- O7. A push writes at 0x0100+SP and then lowers SP; a pull raises SP and then reads; both wrap modulo 256
For every state and byte v: after Push(v), the byte at 0x0100 + the old SP is v, SP is (SP - 1) mod 256, and every other slot of the stack page is as before; Pull sets SP to (SP + 1) mod 256 and returns the byte at 0x0100 + the new SP; a Pull after the Push returns v and gives SP back.
Basis: stated, R12. -/
def Obligations.PushThenPullReturnsTheByte : Prop :=
  ∀ (s : State) (v q : Byte),
    (push v s).stored (slot s.sp) = v
    ∧ (push v s).sp.toNat = (s.sp.toNat + 255) % 256
    ∧ (q ≠ s.sp → (push v s).stored (slot q) = s.stored (slot q))
    ∧ (pull s).2.sp.toNat = (s.sp.toNat + 1) % 256
    ∧ (pull s).1 = s.stored (slot (pull s).2.sp)
    ∧ (pull (push v s)).1 = v
    ∧ (pull (push v s)).2.sp = s.sp

/-- O8. Two memories in canonical form that read alike everywhere are equal
If two memories have the canonical form (addresses strictly rising, only storage addresses, no entry equal to what an unlisted address reads as) and give the same byte at every address, they are the same list. The form is the model's own (log entry 12).
Basis: derived, 20_memory.md section 5, 10_state.md R24. -/
def Obligations.EqualMemoriesAreEqualData : Prop :=
  ∀ m n : Memory, m.wf → n.wf → (∀ a, m.get a = n.get a) → m = n

/-- O9. load_program refuses what does not fit and otherwise places byte i at origin + i, ROM included
For every state, byte list and origin: if origin plus the length exceeds $10000 the answer is ProgramTooLarge and nothing is stored. Else, whatever the length, it succeeds, every field of State but memory is as before, and a byte whose canonical address is none of the program's reads as before. Each byte i whose address origin + i is backed by storage is what that address then reads as if the program has at most $0800 bytes or begins at $2000 or above (a full PRG ROM image is one); and in every program, if no later byte of it has the same canonical address. Writing ROM directly and discarding bytes aimed at no storage is the decision D11. That of two bytes of one program on one byte of mirrored RAM the later stays is the model's choice (log entry 15); the last clause alone rests on it.
Basis: derived, 20_memory.md R61, 92_eei_decisions.md D11. -/
def Obligations.LoadProgramIsAllOrNothing : Prop :=
  ∀ (s : State) (bytes : List Byte) (origin : Word),
    (0x10000 < origin.toNat + bytes.length → loadProgram bytes origin s = .error .programTooLarge)
    ∧ (origin.toNat + bytes.length ≤ 0x10000 →
        ∃ t, loadProgram bytes origin s = .ok t
          ∧ t = { s with mem := t.mem }
          ∧ (∀ b : Word, (∀ i < bytes.length, canon b ≠ canon (origin + BitVec.ofNat 16 i)) →
              t.stored b = s.stored b)
          ∧ (bytes.length ≤ 0x800 ∨ 0x2000 ≤ origin.toNat →
              ∀ (i : Nat) (h : i < bytes.length),
                (region (origin + BitVec.ofNat 16 i)).isStorage = true →
                t.stored (origin + BitVec.ofNat 16 i) = bytes[i])
          ∧ (∀ (i : Nat) (h : i < bytes.length),
              (region (origin + BitVec.ofNat 16 i)).isStorage = true →
              (∀ j, i < j → j < bytes.length →
                canon (origin + BitVec.ofNat 16 j) ≠ canon (origin + BitVec.ofNat 16 i)) →
              t.stored (origin + BitVec.ofNat 16 i) = bytes[i]))

/-- O10. reset() leaves A = X = Y = $00, SP = $FD, P = $24, both latches clear, cycles 0, PC from the reset vector, memory unchanged
For every state, reset() gives A, X, Y = $00, SP = $FD, P = $24 (I alone set), both latches 0, cycles 0, PC = the bytes at $FFFD:$FFFC, memory and draws as before, with exactly two bus transactions, the two vector reads in order. The values are the decisions D3, D7 and D16 of the spec.
Basis: derived, 92_eei_decisions.md D3, 92_eei_decisions.md D7, 92_eei_decisions.md D16, 70_reset_and_hazards.md section 1. -/
def Obligations.ResetSequence : Prop :=
  ∀ s : State,
    hostReset s =
      { a := 0x00#8, x := 0x00#8, y := 0x00#8, sp := 0xFD#8
        pc := storedWord s 0xFFFD#16 0xFFFC#16
        p := { n := false, v := false, b := false, d := false, i := true, z := false, c := false }
        nmiPending := false, irqPending := false, cycles := 0
        mem := s.mem, draws := s.draws
        bus := [.read 0xFFFC#16 (s.stored 0xFFFC#16), .read 0xFFFD#16 (s.stored 0xFFFD#16)] }
    ∧ (hostReset s).p.asByte = 0x24#8

/-- O11. State.reset is what reset() leaves when no byte of memory has been written
State.reset is reset() of any state that has its memory (nothing listed) and its count of draws (0); its memory has the canonical form. That an unlisted byte reads $00, so that PC is $0000, is the model's choice (log entry 1), and the count 0 is (log entry 2).
Basis: derived, 70_reset_and_hazards.md section 1, 92_eei_decisions.md D19. -/
def Obligations.ResetStateIsResetOfEmptyMemory : Prop :=
  (∀ s : State, s.mem = [] → s.draws = 0 → hostReset s = State.reset)
  ∧ Inv State.reset

/-- O12. Decoding the bytes of any well-formed instruction gives it back, with every operand, and leaves the bytes after it
For every well-formed instruction i, whatever its operand bytes, and every list of bytes after it: decodeBytes (encode i ++ rest) is i and rest.
Basis: derived, 30_encoding.md R70, 30_encoding.md R71, 30_encoding.md R73, 30_encoding.md R81. -/
def Obligations.DecodeOfEncodeIsTheInstruction : Prop :=
  ∀ (i : Instr) (rest : List Byte), i.wf = true → decodeBytes (encode i ++ rest) = .ok (i, rest)

/-- O13. What the decoder reads from three bytes is well formed and encodes back to the first bytes of them
For every opcode byte and two bytes after it, the decoded instruction is well formed and its encoding is the first one, two or three of these bytes, as its length says.
Basis: derived, 30_encoding.md R71, 30_encoding.md R72, 30_encoding.md R73. -/
def Obligations.EncodeOfDecodeIsTheBytes : Prop :=
  ∀ b0 b1 b2 : Byte,
    (decode b0 b1 b2).wf = true ∧ encode (decode b0 b1 b2) = [b0, b1, b2].take (decode b0 b1 b2).length

/-- O14. Exactly the 105 opcode values of R77 decode to the unimplemented operation
For every opcode byte b0 and bytes b1, b2: the decoded instruction has the mnemonic ILL if and only if b0 is in the list of R77, then it is ILL with b0; that list has 105 entries, all different. Which values they are rests on the decision D1.
Basis: derived, 92_eei_decisions.md D1, 30_encoding.md section 3. -/
def Obligations.UnimplementedOpcodesAreTheOthers : Prop :=
  (∀ b0 b1 b2 : Byte,
    ((decode b0 b1 b2).mnemonic = .ill ↔ b0 ∈ unimplementedOpcodes)
    ∧ (b0 ∈ unimplementedOpcodes → decode b0 b1 b2 = .ill b0))
  ∧ unimplementedOpcodes.length = 105 ∧ unimplementedOpcodes.Nodup

/-- O15. Words written out from the spec decode to the instructions they stand for
The byte strings of the spec's own examples decode to their instructions: A9 42, BD FF 20, 6C FF 02, 20 34 12, D0 FB, 0A, 96 10, 91 10, A1 20, 00, 40, 02.
Basis: derived, 30_encoding.md R74, 30_encoding.md R75, 95_test_vectors.md. -/
def Obligations.WordsOfTheSpecDecode : Prop :=
  decodeBytes [0xA9, 0x42] = .ok (.ldaImm 0x42, []) ∧ decodeBytes [0xBD, 0xFF, 0x20] = .ok (.ldaAbx 0x20FF, [])
  ∧ decodeBytes [0x6C, 0xFF, 0x02] = .ok (.jmpInd 0x02FF, []) ∧ decodeBytes [0x20, 0x34, 0x12] = .ok (.jsr 0x1234, [])
  ∧ decodeBytes [0xD0, 0xFB] = .ok (.bne 0xFB, []) ∧ decodeBytes [0x0A] = .ok (.aslAcc, [])
  ∧ decodeBytes [0x96, 0x10] = .ok (.stxZpy 0x10, []) ∧ decodeBytes [0x91, 0x10] = .ok (.staIzy 0x10, [])
  ∧ decodeBytes [0xA1, 0x20] = .ok (.ldaIzx 0x20, []) ∧ decodeBytes [0x00] = .ok (.brk, [])
  ∧ decodeBytes [0x40] = .ok (.rti, []) ∧ decodeBytes [0x02] = .ok (.ill 0x02, [])

/-- O16. ZP, ZPX and ZPY: the effective address is the operand byte, plus X or Y modulo 256
For every state and operand byte z: ZP yields z, ZPX yields (z + X) mod 256, ZPY yields (z + Y) mod 256, each in page 0; no page crossing is reported and the state is unchanged.
Basis: stated, R109, R110, R111. -/
def Obligations.ZeroPageModesStayInPageZero : Prop :=
  ∀ (s : State) (z : Byte),
    resolveAddr (.zp z) s = { ea := BitVec.ofNat 16 z.toNat, crossed := false, st := s }
    ∧ resolveAddr (.zpx z) s = { ea := BitVec.ofNat 16 ((z.toNat + s.x.toNat) % 256), crossed := false, st := s }
    ∧ resolveAddr (.zpy z) s = { ea := BitVec.ofNat 16 ((z.toNat + s.y.toNat) % 256), crossed := false, st := s }
    ∧ (resolveAddr (.zpx z) s).ea.toNat < 256 ∧ (resolveAddr (.zpy z) s).ea.toNat < 256

/-- O17. ABS, ABX and ABY: the 16-bit address, plus X or Y modulo 65536, page_crossed iff the low byte plus the index exceeds $FF
For every state and 16-bit operand: ABS yields the operand with no crossing; ABX yields (base + X) mod 65536 and ABY (base + Y) mod 65536, and page_crossed is true exactly when base[7:0] plus the index exceeds $FF, which is exactly when the sum's high byte differs; the state is unchanged.
Basis: stated, R112, R113, R114. -/
def Obligations.AbsoluteModesWrapAndReportCrossing : Prop :=
  ∀ (s : State) (base : Word),
    resolveAddr (.abs base) s = { ea := base, crossed := false, st := s }
    ∧ resolveAddr (.abx base) s =
        { ea := BitVec.ofNat 16 ((base.toNat + s.x.toNat) % 65536)
          crossed := decide (255 < base.toNat % 256 + s.x.toNat), st := s }
    ∧ resolveAddr (.aby base) s =
        { ea := BitVec.ofNat 16 ((base.toNat + s.y.toNat) % 65536)
          crossed := decide (255 < base.toNat % 256 + s.y.toNat), st := s }
    ∧ ((resolveAddr (.abx base) s).crossed = true
        ↔ (resolveAddr (.abx base) s).ea.toNat / 256 ≠ base.toNat / 256)
    ∧ ((resolveAddr (.aby base) s).crossed = true
        ↔ (resolveAddr (.aby base) s).ea.toNat / 256 ≠ base.toNat / 256)

/-- O18. IZX and IZY: both pointer bytes come from page 0; IZY adds Y and reports a change of the high byte
For every state and operand byte z: IZX yields the word whose low byte is read at (z + X) mod 256 and whose high byte is read next at (z + X + 1) mod 256; IZY reads its base at z and (z + 1) mod 256, yields (base + Y) mod 65536 and reports page_crossed exactly when base[7:0] + Y exceeds $FF. That a pointer at $FF has its high byte at $00 is the decision D9.
Basis: derived, 92_eei_decisions.md D9, 40_step_and_addressing.md section 2, IZX and IZY. -/
def Obligations.ZeroPagePointersStayInPageZero : Prop :=
  ∀ (s : State) (z : Byte),
    (let p := (z.toNat + s.x.toNat) % 256
     let lo := memRead (BitVec.ofNat 16 p) s
     let hi := memRead (BitVec.ofNat 16 ((p + 1) % 256)) lo.2
     resolveAddr (.izx z) s = { ea := hi.1 ++ lo.1, crossed := false, st := hi.2 })
    ∧ (let lo := memRead (BitVec.ofNat 16 z.toNat) s
       let hi := memRead (BitVec.ofNat 16 ((z.toNat + 1) % 256)) lo.2
       let base : Word := hi.1 ++ lo.1
       resolveAddr (.izy z) s =
         { ea := BitVec.ofNat 16 ((base.toNat + s.y.toNat) % 65536)
           crossed := decide (255 < base.toNat % 256 + s.y.toNat), st := hi.2 })

/-- O19. Resolving and loading an operand writes no register, no flag and no memory
For every mode and source and every state: resolving the address and loading the operand leave A, X, Y, SP, PC, P, the latches, cycles and memory as they are; an immediate operand is the operand byte itself, with no crossing and no transaction; a memory operand is the byte read at the effective address. (draws and bus, the model's own fields, may change.)
Basis: derived, 40_step_and_addressing.md R105, 40_step_and_addressing.md R108, 40_step_and_addressing.md R119. -/
def Obligations.OperandResolutionWritesNoState : Prop :=
  ∀ (s : State) (m : AddrMode) (v : Byte),
    (resolveAddr m s).st = { s with draws := (resolveAddr m s).st.draws, bus := (resolveAddr m s).st.bus }
    ∧ (loadSource (.mem m) s).st
        = { s with draws := (loadSource (.mem m) s).st.draws, bus := (loadSource (.mem m) s).st.bus }
    ∧ loadSource (.imm v) s = { val := v, crossed := false, st := s }
    ∧ (loadSource (.mem m) s).val = (memRead (resolveAddr m s).ea (resolveAddr m s).st).1
    ∧ (loadSource (.mem m) s).crossed = (resolveAddr m s).crossed

/-- O20. ADC in each of its eight forms: A, C, V, Z, N, the cycles and nothing else
For every ADC instruction (IMM, ZP, ZPX, ABS, ABX, ABY, IZX, IZY) and every state, exec answers the next state in which, with M the operand: A is (A + M + C) mod 256, C is 1 iff the sum exceeds 255, V is 1 iff the signed sum lies outside -128..127, Z and N come from the result, PC is past the instruction, the cycles are the row's, and nothing else has changed.
Basis: stated, R141. -/
def Obligations.AdcAddsWithCarry : Prop :=
  ∀ (i : Instr) (s : State), i.mnemonic = .adc →
    ∃ src : Source, i.form = src.form ∧
      let l := operand i src s
      let sum := s.a.toNat + l.val.toNat + s.p.c.toNat
      let signed := s.a.toInt + l.val.toInt + s.p.c.toNat
      exec i s = .next (afterLoadA i l s (BitVec.ofNat 8 sum)
        (zn { s.p with c := decide (255 < sum), v := decide (signed < -128 ∨ 127 < signed) } (BitVec.ofNat 8 sum)))

/-- O21. SBC in each of its eight forms: A, C as "no borrow", V, Z, N, the cycles and nothing else
For every SBC instruction (IMM, ZP, ZPX, ABS, ABX, ABY, IZX, IZY) and every state, exec answers the next state in which, with M the operand: A is (A - M - (1 - C)) mod 256, C is 1 iff A >= M + (1 - C) as unsigned numbers, V is 1 iff the signed difference lies outside -128..127, Z and N come from the result, PC is past the instruction, the cycles are the row's, and nothing else has changed.
Basis: stated, R142. -/
def Obligations.SbcSubtractsWithBorrow : Prop :=
  ∀ (i : Instr) (s : State), i.mnemonic = .sbc →
    ∃ src : Source, i.form = src.form ∧
      let l := operand i src s
      let borrow := 1 - s.p.c.toNat
      let r := BitVec.ofInt 8 (s.a.toNat - l.val.toNat - borrow)
      let signed := s.a.toInt - l.val.toInt - borrow
      exec i s = .next (afterLoadA i l s r
        (zn { s.p with c := decide (l.val.toNat + borrow ≤ s.a.toNat),
                       v := decide (signed < -128 ∨ 127 < signed) } r))

/-- O22. ADC and SBC give the same result whatever P.D holds
For every ADC or SBC instruction and every state, setting P.D to any value before it changes the outcome only in that P.D keeps that value. Binary arithmetic whatever D holds is the decision D2.
Basis: derived, 92_eei_decisions.md D2, 41_arithmetic.md, Decimal mode. -/
def Obligations.AddAndSubtractIgnoreDecimal : Prop :=
  ∀ (i : Instr) (s : State) (d : Bool), (i.mnemonic = .adc ∨ i.mnemonic = .sbc) →
    exec i { s with p := { s.p with d := d } }
      = mapNext (fun t => { t with p := { t.p with d := d } }) (exec i s)

/-- O23. CMP, CPX and CPY in every form: C, Z, N from the register and the operand, the cycles and nothing else
For every CMP (IMM, ZP, ZPX, ABS, ABX, ABY, IZX, IZY), CPX and CPY (IMM, ZP, ABS) instruction and every state, exec answers the next state in which, with r = A, X or Y and M the operand: C is 1 iff r >= M unsigned, Z and N come from (r - M) mod 256, PC is past the instruction, the cycles are the row's, and nothing else has changed (V, A, X, Y among it).
Basis: stated, R143, R144, R145. -/
def Obligations.ComparesSetCarryZeroNegative : Prop :=
  ∀ (i : Instr) (s : State),
    (i.mnemonic = .cmp → ∃ src : Source, i.form = src.form ∧
      exec i s = .next (afterCompare i (operand i src s) s s.a))
    ∧ (i.mnemonic = .cpx → ∃ src : Source, i.form = src.form ∧
      exec i s = .next (afterCompare i (operand i src s) s s.x))
    ∧ (i.mnemonic = .cpy → ∃ src : Source, i.form = src.form ∧
      exec i s = .next (afterCompare i (operand i src s) s s.y))

/-- O24. INC and DEC in every form: one read, one write of the byte plus or minus 1, Z and N, the cycles and nothing else
For every INC and DEC instruction (ZP, ZPX, ABS, ABX) and every state, exec answers the next state in which the byte read at ea, plus 1 (INC) or minus 1 (DEC) modulo 256, has been written at ea, Z and N come from it, C and V stay, PC is past the instruction, and the cycles are the row's (7 for ABX, crossed or not).
Basis: stated, R146, R149. -/
def Obligations.IncrementAndDecrementMemory : Prop :=
  ∀ (i : Instr) (s : State),
    (i.mnemonic = .inc → ∃ m : AddrMode, i.form = .mem m ∧
      exec i s = .next (afterModify (fun v c => (BitVec.ofNat 8 (v.toNat + 1), c)) i (.mem m) s))
    ∧ (i.mnemonic = .dec → ∃ m : AddrMode, i.form = .mem m ∧
      exec i s = .next (afterModify (fun v c => (BitVec.ofNat 8 (v.toNat + 255), c)) i (.mem m) s))

/-- O25. INX, INY, DEX and DEY: the register plus or minus 1 modulo 256, Z and N, 2 cycles and nothing else
For every state, exec of INX, INY, DEX and DEY answers the next state in which X or Y is the old value plus or minus 1 modulo 256, Z and N come from it, PC is one further, cycles are 2 more, and nothing else has changed.
Basis: stated, R147, R148, R150, R151. -/
def Obligations.IndexRegistersCountModulo256 : Prop :=
  ∀ s : State,
    let xUp : Byte := BitVec.ofNat 8 (s.x.toNat + 1)
    let yUp : Byte := BitVec.ofNat 8 (s.y.toNat + 1)
    let xDown : Byte := BitVec.ofNat 8 (s.x.toNat + 255)
    let yDown : Byte := BitVec.ofNat 8 (s.y.toNat + 255)
    exec .inx s = .next (afterRegister s (fun t => { t with x := xUp, p := zn s.p xUp }))
    ∧ exec .iny s = .next (afterRegister s (fun t => { t with y := yUp, p := zn s.p yUp }))
    ∧ exec .dex s = .next (afterRegister s (fun t => { t with x := xDown, p := zn s.p xDown }))
    ∧ exec .dey s = .next (afterRegister s (fun t => { t with y := yDown, p := zn s.p yDown }))

/-- O26. AND, ORA and EOR in each of their eight forms: A bit by bit, Z, N, the cycles and nothing else
For every AND, ORA and EOR instruction (IMM, ZP, ZPX, ABS, ABX, ABY, IZX, IZY) and every state, exec answers the next state in which each bit of A is the and, or, exclusive or of the old bit and the operand's, Z and N come from the result, C and V stay, PC is past the instruction, the cycles are the row's, and nothing else has changed.
Basis: stated, R161, R162, R163. -/
def Obligations.LogicOperationsOnA : Prop :=
  ∀ (i : Instr) (s : State) (op : Bool → Bool → Bool),
    (i.mnemonic = .and ∧ op = Bool.and ∨ i.mnemonic = .ora ∧ op = Bool.or ∨ i.mnemonic = .eor ∧ op = Bool.xor) →
    ∃ (src : Source) (r : Byte), i.form = src.form
      ∧ (∀ k, k < 8 → r.getLsbD k = op (s.a.getLsbD k) ((operand i src s).val.getLsbD k))
      ∧ exec i s = .next (afterLoadA i (operand i src s) s r (zn s.p r))

/-- O27. BIT in both forms: Z from A and M, N and V from bits 7 and 6 of M, the cycles and nothing else
For every BIT instruction (ZP, ABS) and every state, exec answers the next state in which Z is 1 iff no bit is set in both A and the operand M, N = M[7], V = M[6], C and A stay, PC is past the instruction, the cycles are the row's, and nothing else has changed.
Basis: stated, R164. -/
def Obligations.BitTestCopiesOperandBits : Prop :=
  ∀ (i : Instr) (s : State), i.mnemonic = .bit →
    ∃ m : AddrMode, i.form = .mem m ∧
      let l := operand i (.mem m) s
      exec i s = .next (afterLoadA i l s s.a
        { s.p with
          z := decide (∀ k : Fin 8, ¬ (s.a.getLsbD k = true ∧ l.val.getLsbD k = true))
          n := l.val.getLsbD 7, v := l.val.getLsbD 6 })

/-- O28. ASL and LSR in every form: the byte doubled or halved, C from the bit shifted out, Z, N, the cycles and nothing else
For every ASL and LSR instruction (ACC, ZP, ZPX, ABS, ABX) and every state, exec answers the next state in which the old byte v of A or of ea is replaced by 2v mod 256 with C = v[7] (ASL) or by v / 2 with C = v[0] (LSR), Z and N come from the new byte, V stays, PC is past the instruction, and the cycles are the row's.
Basis: stated, R165, R166. -/
def Obligations.ShiftsMoveOneBit : Prop :=
  ∀ (i : Instr) (s : State),
    (i.mnemonic = .asl → ∃ pl : Place, i.form = pl.form ∧
      exec i s = .next (afterModify
        (fun v _ => (BitVec.ofNat 8 (2 * v.toNat), decide (128 ≤ v.toNat))) i pl s))
    ∧ (i.mnemonic = .lsr → ∃ pl : Place, i.form = pl.form ∧
      exec i s = .next (afterModify
        (fun v _ => (BitVec.ofNat 8 (v.toNat / 2), decide (v.toNat % 2 = 1))) i pl s))

/-- O29. ROL and ROR in every form: a 9-bit rotation of C and the byte, Z, N, the cycles and nothing else
For every ROL and ROR instruction (ACC, ZP, ZPX, ABS, ABX) and every state, exec answers the next state in which the old byte v of A or of ea is replaced by (2v + C) mod 256 with the new C = v[7] (ROL) or by v / 2 + 128 C with the new C = v[0] (ROR), Z and N come from the new byte, V stays, PC is past the instruction, and the cycles are the row's.
Basis: stated, R167, R168. -/
def Obligations.RotatesMoveNineBits : Prop :=
  ∀ (i : Instr) (s : State),
    (i.mnemonic = .rol → ∃ pl : Place, i.form = pl.form ∧
      exec i s = .next (afterModify
        (fun v c => (BitVec.ofNat 8 (2 * v.toNat + c.toNat), decide (128 ≤ v.toNat))) i pl s))
    ∧ (i.mnemonic = .ror → ∃ pl : Place, i.form = pl.form ∧
      exec i s = .next (afterModify
        (fun v c => (BitVec.ofNat 8 (v.toNat / 2 + 128 * c.toNat), decide (v.toNat % 2 = 1))) i pl s))

/-- O30. The eight branches: target, page penalty and not-taken case; no flag and no memory changes
For each of BCC, BCS, BEQ, BNE, BMI, BPL, BVC and BVS and every state, exec answers the next state in which only PC and cycles have changed: with next = PC + 2 and target = next plus the signed displacement modulo 65536, PC is target and the cycles are 3, or 4 when the target's page is not next's, if the branch's condition holds; else PC is next and the cycles are 2.
Basis: stated, R180, R181, R182, R183, R184, R185, R186, R187, R188. -/
def Obligations.BranchesTestOneFlag : Prop :=
  ∀ (i : Instr) (s : State) (taken : Bool), branchCondition i.mnemonic s.p = some taken →
    ∃ off : Byte, i.form = .rel off ∧
      let next : Word := BitVec.ofNat 16 (s.pc.toNat + 2)
      let target : Word := BitVec.ofInt 16 (next.toNat + off.toInt)
      exec i s = .next (if taken
        then { s with pc := target
                      cycles := s.cycles + if target.toNat / 256 = next.toNat / 256 then 3 else 4 }
        else { s with pc := next, cycles := s.cycles + 2 })

/-- O31. JMP absolute: PC becomes the operand, 3 cycles, nothing else changes and no data is read
For every state and address, exec of JMP $nnnn answers the next state in which PC is that address, cycles are 3 more, and nothing else has changed.
Basis: stated, R189. -/
def Obligations.JumpAbsoluteSetsPc : Prop :=
  ∀ (s : State) (addr : Word), exec (.jmpAbs addr) s = .next { s with pc := addr, cycles := s.cycles + 3 }

/-- O32. JMP indirect: PC becomes the pointed-to address, whose high byte comes from the pointer's own page; 5 cycles, nothing else
For every state and pointer, exec of JMP ($nnnn) answers the next state in which PC is hi:lo, lo read at the pointer and then hi read at the next address in the pointer's own page, cycles are 5 more, and nothing else has changed; when the pointer's low byte is not $FF that PC is Read16 of the pointer. The page wrap is the decision D8.
Basis: derived, 92_eei_decisions.md D8, 40_step_and_addressing.md section 2, IND, 43_branches_jumps.md, JMP indirect. -/
def Obligations.JumpIndirectReadsThePointer : Prop :=
  ∀ (s : State) (p : Word),
    let lo := memRead p { s with pc := s.pc + 3#16 }
    let hi := memRead (BitVec.ofNat 16 (p.toNat / 256 * 256 + (p.toNat + 1) % 256)) lo.2
    exec (.jmpInd p) s = .next { hi.2 with pc := hi.1 ++ lo.1, cycles := s.cycles + 5 }
    ∧ (p.toNat % 256 ≠ 255 → hi.1 ++ lo.1 = (read16 p { s with pc := s.pc + 3#16 }).1)

/-- O33. JSR: pushes the address of its own last byte, high then low, and jumps
For every state and address, exec of JSR answers the next state in which the high byte of PC + 2 has been written at 0x0100 + SP and then its low byte at the slot below, SP is 2 less modulo 256, PC is the address, cycles are 6 more, and nothing else has changed.
Basis: stated, R191. -/
def Obligations.CallPushesTheReturnAddress : Prop :=
  ∀ (s : State) (addr : Word),
    let ret : Word := s.pc + 2#16
    exec (.jsr addr) s = .next
      { memWrite (slot (s.sp - 1#8)) (BitVec.ofNat 8 ret.toNat)
          (memWrite (slot s.sp) (BitVec.ofNat 8 (ret.toNat / 256)) s) with
        sp := s.sp - 2#8, pc := addr, cycles := s.cycles + 6 }

/-- O34. RTS: pulls low then high and continues at the pulled address plus 1
For every state, exec of RTS answers the next state in which the low byte has been read at the slot of SP + 1 and then the high byte at that of SP + 2, SP is 2 more modulo 256, PC is hi:lo + 1 modulo 65536, cycles are 6 more, and nothing else has changed.
Basis: stated, R192. -/
def Obligations.ReturnPullsAndAddsOne : Prop :=
  ∀ s : State,
    let lo := memRead (slot (s.sp + 1#8)) s
    let hi := memRead (slot (s.sp + 2#8)) lo.2
    exec .rts s = .next
      { hi.2 with
        sp := s.sp + 2#8, pc := BitVec.ofNat 16 (hi.1.toNat * 256 + lo.1.toNat + 1), cycles := s.cycles + 6 }

/-- O35. JSR then RTS continues at the instruction after the JSR with SP, A, X, Y and P as before
For every state and address: exec of JSR answers a next state t, exec of RTS in t answers a next state u, and in u PC is the address after the three-byte JSR, SP, A, X, Y, P and the latches are as before the JSR, whatever SP was (a wrap inside the page included).
Basis: derived, 43_branches_jumps.md R191, 43_branches_jumps.md R192, 95_test_vectors.md S8. -/
def Obligations.CallThenReturnResumesAfterTheCall : Prop :=
  ∀ (s : State) (addr : Word), ∃ t u, exec (.jsr addr) s = .next t ∧ exec .rts t = .next u
    ∧ u.pc = s.pc + 3#16 ∧ u.sp = s.sp ∧ u.a = s.a ∧ u.x = s.x ∧ u.y = s.y ∧ u.p = s.p
    ∧ u.nmiPending = s.nmiPending ∧ u.irqPending = s.irqPending

/-- O36. LDA, LDX and LDY in every form: the register, Z, N, the cycles and nothing else
For every LDA (IMM, ZP, ZPX, ABS, ABX, ABY, IZX, IZY), LDX (IMM, ZP, ZPY, ABS, ABY) and LDY (IMM, ZP, ZPX, ABS, ABX) instruction and every state, exec answers the next state in which A, X or Y is the operand, Z and N come from it, PC is past the instruction, the cycles are the row's, and nothing else has changed.
Basis: stated, R201, R202, R203. -/
def Obligations.LoadsSetRegisterZeroNegative : Prop :=
  ∀ (i : Instr) (s : State),
    (i.mnemonic = .lda → ∃ src : Source, i.form = src.form ∧
      let l := operand i src s
      exec i s = .next { l.st with a := l.val, p := zn s.p l.val, cycles := s.cycles + rowCycles i l.crossed })
    ∧ (i.mnemonic = .ldx → ∃ src : Source, i.form = src.form ∧
      let l := operand i src s
      exec i s = .next { l.st with x := l.val, p := zn s.p l.val, cycles := s.cycles + rowCycles i l.crossed })
    ∧ (i.mnemonic = .ldy → ∃ src : Source, i.form = src.form ∧
      let l := operand i src s
      exec i s = .next { l.st with y := l.val, p := zn s.p l.val, cycles := s.cycles + rowCycles i l.crossed })

/-- O37. STA, STX and STY in every form: one write of the register at ea, the fixed cycles and nothing else
For every STA (ZP, ZPX, ABS, ABX, ABY, IZX, IZY), STX (ZP, ZPY, ABS) and STY (ZP, ZPX, ABS) instruction and every state, exec answers the next state in which A, X or Y has been written at ea with no read of ea, no register or flag but PC has changed, PC is past the instruction, and the cycles are the row's whether or not a page was crossed.
Basis: stated, R204, R205, R206. -/
def Obligations.StoresWriteOneByte : Prop :=
  ∀ (i : Instr) (s : State),
    (i.mnemonic = .sta → ∃ m : AddrMode, i.form = .mem m ∧
      exec i s = .next { memWrite (target i m s).ea s.a (target i m s).st with cycles := s.cycles + baseCycles i })
    ∧ (i.mnemonic = .stx → ∃ m : AddrMode, i.form = .mem m ∧
      exec i s = .next { memWrite (target i m s).ea s.x (target i m s).st with cycles := s.cycles + baseCycles i })
    ∧ (i.mnemonic = .sty → ∃ m : AddrMode, i.form = .mem m ∧
      exec i s = .next { memWrite (target i m s).ea s.y (target i m s).st with cycles := s.cycles + baseCycles i })

/-- O38. TAX, TAY, TXA, TYA and TSX copy a register and set Z and N; TXS copies X to SP and sets no flag; 2 cycles and nothing else
For every state, exec of TAX, TAY, TXA, TYA and TSX answers the next state in which the destination holds the source, Z and N come from it, PC is one further, cycles are 2 more, and nothing else has changed; exec of TXS the same with SP holding X and no flag changed. That TXS writes no flag is the decision D20.
Basis: derived, 44_transfers.md R207, 44_transfers.md R208, 44_transfers.md R209, 44_transfers.md R210, 44_transfers.md R211, 92_eei_decisions.md D20. -/
def Obligations.TransfersCopyRegisters : Prop :=
  ∀ s : State,
    exec .tax s = .next (afterRegister s (fun t => { t with x := s.a, p := zn s.p s.a }))
    ∧ exec .tay s = .next (afterRegister s (fun t => { t with y := s.a, p := zn s.p s.a }))
    ∧ exec .txa s = .next (afterRegister s (fun t => { t with a := s.x, p := zn s.p s.x }))
    ∧ exec .tya s = .next (afterRegister s (fun t => { t with a := s.y, p := zn s.p s.y }))
    ∧ exec .tsx s = .next (afterRegister s (fun t => { t with x := s.sp, p := zn s.p s.sp }))
    ∧ exec .txs s = .next (afterRegister s (fun t => { t with sp := s.x }))

/-- O39. PHA pushes A; PLA pulls A and sets Z and N
For every state: exec of PHA answers the next state in which A has been written at 0x0100 + SP, SP is 1 less modulo 256, PC is one further and cycles are 3 more; exec of PLA answers the next state in which A is the byte read at 0x0100 + (SP + 1), SP is 1 more modulo 256, Z and N come from A, PC is one further and cycles are 4 more; nothing else has changed.
Basis: stated, R221, R223. -/
def Obligations.PhaPushesAPlaPullsA : Prop :=
  ∀ s : State,
    exec .pha s = .next
      { memWrite (slot s.sp) s.a s with sp := s.sp - 1#8, pc := s.pc + 1#16, cycles := s.cycles + 3 }
    ∧ (let r := memRead (slot (s.sp + 1#8)) s
       exec .pla s = .next
        { r.2 with a := r.1, sp := s.sp + 1#8, p := zn s.p r.1, pc := s.pc + 1#16, cycles := s.cycles + 4 })

/-- O40. PHP pushes P with bits 4 and 5 set; PLP pulls P, ignoring bits 5 and 4
For every state: exec of PHP answers the next state in which PackP(1) has been written at 0x0100 + SP, SP is 1 less, PC is one further, cycles are 3 more and P is unchanged; exec of PLP answers the next state in which P is unpacked from the byte at 0x0100 + (SP + 1), with the stored B kept, SP is 1 more, PC is one further and cycles are 4 more; nothing else has changed. Bit 4 on a push and its neglect on a pull are the decision D4.
Basis: derived, 92_eei_decisions.md D4, 45_stack.md, PHP and PLP. -/
def Obligations.PhpPushesPPlpPullsP : Prop :=
  ∀ s : State,
    exec .php s = .next
      { memWrite (slot s.sp) (s.p.asByte ||| 0x30#8) s with
        sp := s.sp - 1#8, pc := s.pc + 1#16, cycles := s.cycles + 3 }
    ∧ (let r := memRead (slot (s.sp + 1#8)) s
       exec .plp s = .next
        { r.2 with sp := s.sp + 1#8, p := { s.p.loadByte r.1 with b := s.p.b }
                   pc := s.pc + 1#16, cycles := s.cycles + 4 })

/-- O41. BRK pushes PC + 2 and P with Break set, sets I and loads PC from $FFFE, whatever I was
For every state, exec of BRK answers the next state in which the high byte and the low byte of the BRK's address plus 2 and then P with bits 4 and 5 set have been written downwards from 0x0100 + SP, SP is 3 less modulo 256, I is 1, PC is the word at $FFFE read low byte first, cycles are 7 more, and nothing else, the latches, D and the stored B among it, has changed. That D stays is the decision D21.
Basis: derived, 46_system.md, BRK, 92_eei_decisions.md D21, 90_conflicts.md C8. -/
def Obligations.BrkEntersTheHandler : Prop :=
  ∀ s : State,
    let ret : Word := s.pc + 2#16
    let w := write3 (BitVec.ofNat 8 (ret.toNat / 256)) (BitVec.ofNat 8 ret.toNat) (s.p.asByte ||| 0x30#8) s
    let lo := memRead 0xFFFE#16 w
    let hi := memRead 0xFFFF#16 lo.2
    exec .brk s = .next
      { hi.2 with
        sp := s.sp - 3#8, p := { s.p with i := true }, pc := hi.1 ++ lo.1, cycles := s.cycles + 7 }

/-- O42. RTI pulls P, then PC low, then PC high, and resumes at exactly that address
For every state, exec of RTI answers the next state in which P is unpacked from the byte at the slot of SP + 1 with the stored B kept, PC is hi:lo from the slots of SP + 3 and SP + 2 with no adjustment, SP is 3 more modulo 256, cycles are 6 more, and nothing else has changed. Ignoring bit 4 is the decision D4.
Basis: derived, 46_system.md, RTI, 92_eei_decisions.md D4. -/
def Obligations.RtiPullsStatusAndPc : Prop :=
  ∀ s : State,
    let st := memRead (slot (s.sp + 1#8)) s
    let lo := memRead (slot (s.sp + 2#8)) st.2
    let hi := memRead (slot (s.sp + 3#8)) lo.2
    exec .rti s = .next
      { hi.2 with
        sp := s.sp + 3#8, p := { s.p.loadByte st.1 with b := s.p.b }
        pc := hi.1 ++ lo.1, cycles := s.cycles + 6 }

/-- O43. NOP, CLC, SEC, CLD, SED and CLV change one flag or none; 2 cycles
For every state, exec of NOP, CLC, SEC, CLD, SED and CLV answers the next state in which PC is one further, cycles are 2 more, C, D or V has the value the mnemonic names, and nothing else has changed.
Basis: stated, R233, R234, R235, R238, R239, R240. -/
def Obligations.NopAndFlagInstructions : Prop :=
  ∀ s : State,
    exec .nop s = .next (afterRegister s id)
    ∧ exec .clc s = .next (afterRegister s (fun t => { t with p := { s.p with c := false } }))
    ∧ exec .sec s = .next (afterRegister s (fun t => { t with p := { s.p with c := true } }))
    ∧ exec .cld s = .next (afterRegister s (fun t => { t with p := { s.p with d := false } }))
    ∧ exec .sed s = .next (afterRegister s (fun t => { t with p := { s.p with d := true } }))
    ∧ exec .clv s = .next (afterRegister s (fun t => { t with p := { s.p with v := false } }))

/-- O44. CLI and SEI change I alone, and the very next step boundary obeys the new I
For every state, exec of CLI and of SEI answers the next state in which I is 0 or 1, PC is one further, cycles are 2 more and nothing else has changed; with IRQ pending and no NMI pending, the step after CLI services the IRQ, and the step after SEI fetches an instruction instead. The immediate effect is the decision D13.
Basis: derived, 46_system.md, CLI and SEI, 92_eei_decisions.md D13. -/
def Obligations.CliAndSeiGateTheNextBoundary : Prop :=
  ∀ s : State,
    let cli := afterRegister s (fun t => { t with p := { s.p with i := false } })
    let sei := afterRegister s (fun t => { t with p := { s.p with i := true } })
    exec .cli s = .next cli ∧ exec .sei s = .next sei
    ∧ (s.nmiPending = false → s.irqPending = true →
        step cli = .next (serviceIrq cli.clearBus)
        ∧ step sei = exec (fetch sei.clearBus).1 (fetch sei.clearBus).2)

/-- O45. The unimplemented operation raises UnimplementedOpcode with the opcode byte, in every state
For every opcode byte carried by ILL and every state, exec answers the fault UnimplementedOpcode of that byte.
Basis: derived, 46_system.md, ILL, 60_exceptions.md section 1, 92_eei_decisions.md D12. -/
def Obligations.IllFaultsWithItsOpcode : Prop :=
  ∀ (opcode : Byte) (s : State), exec (.ill opcode) s = .fault (.unimplementedOpcode opcode)

/-- O46. An instruction changes no flag but those the table of R14 lists for it; the stored B and U never change
For every instruction, every state in which it answers a next state, and every flag f of N, V, U, B, D, I, Z, C: if the instruction is not among those that R14 lists as writing f, f is unchanged.
Basis: derived, 10_state.md R14, 10_state.md R15, 92_eei_decisions.md D4. -/
def Obligations.OnlyListedInstructionsWriteAFlag : Prop :=
  ∀ (i : Instr) (s t : State) (f : Flag), exec i s = .next t → i.mnemonic ∉ flagWriters f →
    t.p.get f = s.p.get f

/-- O47. An instruction changes no register but its destination; SP moves by the instruction's pushes and pulls; the latches stay
For every instruction and every state in which it answers a next state: A, X and Y are unchanged unless R10 names the register as the instruction's destination (A also in the ACC form of a shift or rotate); SP moves, modulo 256, by -1 for PHA and PHP, +1 for PLA and PLP, -2 for JSR, +2 for RTS, -3 for BRK, +3 for RTI, is X after TXS, and is otherwise unchanged; PC is past the instruction unless it transfers control; both latches are unchanged.
Basis: derived, 10_state.md R10, 10_state.md R11, 10_state.md R12, 10_state.md R21. -/
def Obligations.RegisterFrame : Prop :=
  ∀ (i : Instr) (s t : State), exec i s = .next t →
    (writesA i = false → t.a = s.a) ∧ (writesX i = false → t.x = s.x) ∧ (writesY i = false → t.y = s.y)
    ∧ t.sp = (if i.mnemonic = .txs then s.x else s.sp + spMove i.mnemonic)
    ∧ (transfersControl i = false → t.pc = s.pc + BitVec.ofNat 16 i.length)
    ∧ t.nmiPending = s.nmiPending ∧ t.irqPending = s.irqPending

/-- O48. An instruction leaves every byte of memory but those at the addresses it stores to
For every instruction and every state in which it answers a next state: every address b reads, through storage, as before, unless b has the canonical address of one of the addresses the instruction stores to (the effective address of STA, STX, STY and of a memory INC, DEC, ASL, LSR, ROL, ROR; one stack slot of PHA and PHP, two of JSR, three of BRK; none for every other instruction) and that address lies in internal RAM or PRG RAM.
Basis: derived, 20_memory.md R46, 20_memory.md R53, 92_eei_decisions.md D11. -/
def Obligations.MemoryFrame : Prop :=
  ∀ (i : Instr) (s t : State) (b : Word), exec i s = .next t →
    (∀ a ∈ storeAddresses i s, (region a = .ram ∨ region a = .prgRam) → canon b ≠ canon a) →
    t.stored b = s.stored b

/-- O49. An instruction issues exactly the data transactions of R46 in the order of R120
For every instruction and every state in which it answers a next state, the bus transactions it adds are, as reads and writes of addresses: the pointer bytes of IND, IZX and IZY low then high; then one read at ea for a load or ALU instruction, one write at ea for a store, a read then a write at ea for a read-modify-write; the pushes of PHA, PHP, JSR and BRK high byte first; the pulls of PLA, PLP, RTS, RTI; then BRK's two vector reads; and no other. Order and absence of dummy accesses are the decisions D15 and D10; the record is the model's own (log entry 3).
Basis: derived, 20_memory.md R46, 92_eei_decisions.md D10, 92_eei_decisions.md D15. -/
def Obligations.TransactionsInOrder : Prop :=
  ∀ (i : Instr) (s t : State), exec i s = .next t →
    t.bus.map kindOf = s.bus.map kindOf ++ transactions i s

/-- O50. A fetch from storage decodes the bytes at PC and changes nothing but the record of transactions
For every state whose PC and the two addresses after it lie in storage: the fetched instruction is what the decoder gives for the three stored bytes, the state after is the same but for the record, to which exactly the reads of the instruction's own bytes, opcode first, have been added.
Basis: derived, 40_step_and_addressing.md R101, 40_step_and_addressing.md R102, 92_eei_decisions.md D10, 92_eei_decisions.md D15. -/
def Obligations.FetchReadsTheInstructionAtPc : Prop :=
  ∀ s : State, fetchesFromStorage s.pc = true →
    (fetch s).1 = decode (s.stored s.pc) (s.stored (s.pc + 1#16)) (s.stored (s.pc + 2#16))
    ∧ (fetch s).2 = { s with bus := (fetch s).2.bus }
    ∧ (fetch s).2.bus.map kindOf = s.bus.map kindOf ++ fetchReads s.pc (fetch s).1.length

/-- O51. With no interrupt serviceable, a step is exec of the instruction whose bytes are at PC
For every state with no NMI pending and no IRQ serviceable (pending with I = 0): step is exec of the fetched instruction in the state the fetch leaves, the record of transactions started afresh; and when the bytes of a well-formed instruction i stand in storage at PC and after, the fetched instruction is i and the state exec runs in is s but for that record. exec itself moves PC past the instruction and charges its cycles.
Basis: derived, 40_step_and_addressing.md R101, 40_step_and_addressing.md R103. -/
def Obligations.StepRunsTheDecodedInstruction : Prop :=
  ∀ s : State, s.nmiPending = false → (s.irqPending = false ∨ s.p.i = true) →
    step s = exec (fetch s.clearBus).1 (fetch s.clearBus).2
    ∧ ∀ i : Instr, i.wf = true →
        (∀ (k : Nat) (h : k < (encode i).length),
          (region (s.pc + BitVec.ofNat 16 k)).isStorage = true
          ∧ s.stored (s.pc + BitVec.ofNat 16 k) = (encode i)[k]) →
        ∃ log, step s = exec i { s with bus := log }

/-- O52. A pending NMI, else a pending unmasked IRQ, is serviced instead of a fetch: frame pushed, I set, PC from the vector, 7 cycles, its latch cleared
For every state: with an NMI pending, step answers the state in which PC high, PC low and P with bit 4 clear have been written downwards from 0x0100 + SP, SP is 3 less, I is 1, PC is the word at $FFFA, cycles are 7 more, the NMI latch is 0 and nothing else has changed; with none, an IRQ pending and I = 0, the same with $FFFE and the IRQ latch. The 7, the clearing and the unchanged D are the decisions D6, D5 and D21.
Basis: derived, 40_step_and_addressing.md section 1, 60_exceptions.md section 3, 92_eei_decisions.md D5, 92_eei_decisions.md D6, 92_eei_decisions.md D21. -/
def Obligations.InterruptServiceStep : Prop :=
  ∀ s : State,
    let pushed := fun t : State =>
      write3 (BitVec.ofNat 8 (s.pc.toNat / 256)) (BitVec.ofNat 8 s.pc.toNat) (s.p.asByte &&& 0xEF#8) t
    (s.nmiPending = true →
      let w := pushed { s with nmiPending := false, bus := [] }
      let lo := memRead 0xFFFA#16 w
      let hi := memRead 0xFFFB#16 lo.2
      step s = .next { hi.2 with sp := s.sp - 3#8, p := { s.p with i := true }
                                 pc := hi.1 ++ lo.1, cycles := s.cycles + 7 })
    ∧ (s.nmiPending = false → s.irqPending = true → s.p.i = false →
      let w := pushed { s with irqPending := false, bus := [] }
      let lo := memRead 0xFFFE#16 w
      let hi := memRead 0xFFFF#16 lo.2
      step s = .next { hi.2 with sp := s.sp - 3#8, p := { s.p with i := true }
                                 pc := hi.1 ++ lo.1, cycles := s.cycles + 7 })

/-- O53. An interrupt or BRK followed by RTI restores A, X, Y, SP, PC and every flag
For every state and whatever SP: if step services an NMI or an IRQ, RTI in the state it leaves answers a next state with A, X, Y, SP, PC and P as before the interrupt; BRK followed by RTI gives A, X, Y, SP and P back, with PC at the BRK's address plus 2.
Basis: derived, 60_exceptions.md R260, 46_system.md R232, 95_test_vectors.md S9. -/
def Obligations.InterruptThenRtiRestores : Prop :=
  ∀ s : State,
    ((s.nmiPending = true ∨ (s.irqPending = true ∧ s.p.i = false)) →
      ∃ t u, step s = .next t ∧ exec .rti t = .next u
        ∧ u.a = s.a ∧ u.x = s.x ∧ u.y = s.y ∧ u.sp = s.sp ∧ u.pc = s.pc ∧ u.p = s.p)
    ∧ ∃ t u, exec .brk s = .next t ∧ exec .rti t = .next u
        ∧ u.a = s.a ∧ u.x = s.x ∧ u.y = s.y ∧ u.sp = s.sp ∧ u.pc = s.pc + 2#16 ∧ u.p = s.p

/-- O54. A trigger sets its latch and nothing else, twice as once; a step clears the latch it services and no other
For every state, trigger_irq() sets irq_pending and trigger_nmi() sets nmi_pending, every other field stays, and triggering twice is triggering once (D23). For every state in which step answers a next state: afterwards no NMI is pending, and an IRQ is pending exactly if one was and this step did not service it, that is if an NMI was pending or I was 1. Clearing on service is the decision D5.
Basis: derived, 10_state.md R21, 70_reset_and_hazards.md R285, 92_eei_decisions.md D5, 92_eei_decisions.md D23. -/
def Obligations.TriggersSetAndServiceClears : Prop :=
  (∀ s : State,
    triggerIrq s = { s with irqPending := true }
    ∧ triggerNmi s = { s with nmiPending := true }
    ∧ triggerIrq (triggerIrq s) = triggerIrq s
    ∧ triggerNmi (triggerNmi s) = triggerNmi s)
  ∧ ∀ s t : State, step s = .next t →
    t.nmiPending = false ∧ t.irqPending = (s.irqPending && (s.nmiPending || s.p.i))

/-- O55. A step goes on unless no interrupt is serviceable and the opcode byte is unimplemented; then it faults with that byte; it never refuses
For every state: if an interrupt is serviceable, step answers a next state; else, with op the byte the opcode read gives, step answers the fault UnimplementedOpcode(op) when op is one of the 105 values of R77 and a next state when it is not.
Basis: derived, 60_exceptions.md section 1, 60_exceptions.md R259, 92_eei_decisions.md D1, 92_eei_decisions.md D12. -/
def Obligations.StepStopsOnlyOnUnimplementedOpcode : Prop :=
  ∀ s : State,
    let op := (memRead s.pc s).1
    if s.nmiPending = true ∨ (s.irqPending = true ∧ s.p.i = false) then GoesOn s
    else if op ∈ unimplementedOpcodes then step s = .fault (.unimplementedOpcode op)
    else GoesOn s

/-- O56. Every step keeps the canonical form of memory
For every state whose memory has the canonical form (addresses strictly rising, storage addresses only, no entry equal to what an unlisted address reads as): if step answers a next state, its memory has that form. The form is the model's own (log entry 12).
Basis: derived, 20_memory.md section 5, 10_state.md R30. -/
def Obligations.StepKeepsMemoryCanonical : Prop :=
  ∀ s t : State, Inv s → step s = .next t → Inv t

/-- O57. No step changes a byte of PRG ROM
For every state in which step answers a next state and every address in $8000 to $FFFF, the byte stored there is as before. That writes to ROM are discarded is the decision D11.
Basis: derived, 20_memory.md section 5, write policy, 92_eei_decisions.md D11. -/
def Obligations.StepNeverChangesRom : Prop :=
  ∀ (s t : State) (b : Word), step s = .next t → 0x8000 ≤ b.toNat → t.stored b = s.stored b

/-- O58. No step changes the stored Break bit, and after every interrupt entry I is set
For every state in which step answers a next state, the stored P.B is as before; if the step serviced an interrupt, I is 1 afterwards. That the stored B is never written is the decision D4.
Basis: derived, 92_eei_decisions.md D4, 60_exceptions.md section 3. -/
def Obligations.StepNeverChangesStoredBreak : Prop :=
  ∀ s t : State, step s = .next t →
    t.p.b = s.p.b
    ∧ ((s.nmiPending = true ∨ (s.irqPending = true ∧ s.p.i = false)) → t.p.i = true)

/-- O59. A step that goes on charges between 2 and 7 cycles
For every state in which step answers a next state, cycles go up by at least 2 and at most 7; the largest value step() returns is 7.
Basis: derived, 40_step_and_addressing.md R104, 70_reset_and_hazards.md R289. -/
def Obligations.StepChargesTwoToSevenCycles : Prop :=
  ∀ s t : State, step s = .next t → s.cycles + 2 ≤ t.cycles ∧ t.cycles ≤ s.cycles + 7

/-- O60. No step depends on the cycle counter or on the record of earlier transactions
For every state: replacing its cycle counter and its record of transactions by any others gives the same outcome of step, but for the cycle counter of the next state. The record is the model's own field (log entry 3). That nothing carries over from one step to the next but the state and memory is an inference the spec marks "derived: from 10_state.md rule R24".
Basis: derived, 70_reset_and_hazards.md R289, 10_state.md R22, 40_step_and_addressing.md section 4. -/
def Obligations.CyclesAndRecordAreNeverRead : Prop :=
  ∀ (s : State) (n : Nat) (log : List Transaction),
    mapNext withoutCycles (step { s with cycles := n, bus := log }) = mapNext withoutCycles (step s)
end

