-- ==== Sys2Proof/Laws/State.lean ====
section
/-! SUPPORT. One lemma per field of State and per named update: what each update writes and what it leaves. -/

namespace Sys2Proof.Machine

@[simp] theorem State.setA_a (s : State) (v : Byte) : (s.setA v).a = v := rfl
@[simp] theorem State.setA_x (s : State) (v : Byte) : (s.setA v).x = s.x := rfl
@[simp] theorem State.setA_y (s : State) (v : Byte) : (s.setA v).y = s.y := rfl
@[simp] theorem State.setA_sp (s : State) (v : Byte) : (s.setA v).sp = s.sp := rfl
@[simp] theorem State.setA_pc (s : State) (v : Byte) : (s.setA v).pc = s.pc := rfl
@[simp] theorem State.setA_p (s : State) (v : Byte) : (s.setA v).p = s.p := rfl
@[simp] theorem State.setA_nmiPending (s : State) (v : Byte) : (s.setA v).nmiPending = s.nmiPending := rfl
@[simp] theorem State.setA_irqPending (s : State) (v : Byte) : (s.setA v).irqPending = s.irqPending := rfl
@[simp] theorem State.setA_cycles (s : State) (v : Byte) : (s.setA v).cycles = s.cycles := rfl
@[simp] theorem State.setA_mem (s : State) (v : Byte) : (s.setA v).mem = s.mem := rfl
@[simp] theorem State.setA_draws (s : State) (v : Byte) : (s.setA v).draws = s.draws := rfl
@[simp] theorem State.setA_bus (s : State) (v : Byte) : (s.setA v).bus = s.bus := rfl

@[simp] theorem State.setX_a (s : State) (v : Byte) : (s.setX v).a = s.a := rfl
@[simp] theorem State.setX_x (s : State) (v : Byte) : (s.setX v).x = v := rfl
@[simp] theorem State.setX_y (s : State) (v : Byte) : (s.setX v).y = s.y := rfl
@[simp] theorem State.setX_sp (s : State) (v : Byte) : (s.setX v).sp = s.sp := rfl
@[simp] theorem State.setX_pc (s : State) (v : Byte) : (s.setX v).pc = s.pc := rfl
@[simp] theorem State.setX_p (s : State) (v : Byte) : (s.setX v).p = s.p := rfl
@[simp] theorem State.setX_nmiPending (s : State) (v : Byte) : (s.setX v).nmiPending = s.nmiPending := rfl
@[simp] theorem State.setX_irqPending (s : State) (v : Byte) : (s.setX v).irqPending = s.irqPending := rfl
@[simp] theorem State.setX_cycles (s : State) (v : Byte) : (s.setX v).cycles = s.cycles := rfl
@[simp] theorem State.setX_mem (s : State) (v : Byte) : (s.setX v).mem = s.mem := rfl
@[simp] theorem State.setX_draws (s : State) (v : Byte) : (s.setX v).draws = s.draws := rfl
@[simp] theorem State.setX_bus (s : State) (v : Byte) : (s.setX v).bus = s.bus := rfl

@[simp] theorem State.setY_a (s : State) (v : Byte) : (s.setY v).a = s.a := rfl
@[simp] theorem State.setY_x (s : State) (v : Byte) : (s.setY v).x = s.x := rfl
@[simp] theorem State.setY_y (s : State) (v : Byte) : (s.setY v).y = v := rfl
@[simp] theorem State.setY_sp (s : State) (v : Byte) : (s.setY v).sp = s.sp := rfl
@[simp] theorem State.setY_pc (s : State) (v : Byte) : (s.setY v).pc = s.pc := rfl
@[simp] theorem State.setY_p (s : State) (v : Byte) : (s.setY v).p = s.p := rfl
@[simp] theorem State.setY_nmiPending (s : State) (v : Byte) : (s.setY v).nmiPending = s.nmiPending := rfl
@[simp] theorem State.setY_irqPending (s : State) (v : Byte) : (s.setY v).irqPending = s.irqPending := rfl
@[simp] theorem State.setY_cycles (s : State) (v : Byte) : (s.setY v).cycles = s.cycles := rfl
@[simp] theorem State.setY_mem (s : State) (v : Byte) : (s.setY v).mem = s.mem := rfl
@[simp] theorem State.setY_draws (s : State) (v : Byte) : (s.setY v).draws = s.draws := rfl
@[simp] theorem State.setY_bus (s : State) (v : Byte) : (s.setY v).bus = s.bus := rfl

@[simp] theorem State.setSp_a (s : State) (v : Byte) : (s.setSp v).a = s.a := rfl
@[simp] theorem State.setSp_x (s : State) (v : Byte) : (s.setSp v).x = s.x := rfl
@[simp] theorem State.setSp_y (s : State) (v : Byte) : (s.setSp v).y = s.y := rfl
@[simp] theorem State.setSp_sp (s : State) (v : Byte) : (s.setSp v).sp = v := rfl
@[simp] theorem State.setSp_pc (s : State) (v : Byte) : (s.setSp v).pc = s.pc := rfl
@[simp] theorem State.setSp_p (s : State) (v : Byte) : (s.setSp v).p = s.p := rfl
@[simp] theorem State.setSp_nmiPending (s : State) (v : Byte) : (s.setSp v).nmiPending = s.nmiPending := rfl
@[simp] theorem State.setSp_irqPending (s : State) (v : Byte) : (s.setSp v).irqPending = s.irqPending := rfl
@[simp] theorem State.setSp_cycles (s : State) (v : Byte) : (s.setSp v).cycles = s.cycles := rfl
@[simp] theorem State.setSp_mem (s : State) (v : Byte) : (s.setSp v).mem = s.mem := rfl
@[simp] theorem State.setSp_draws (s : State) (v : Byte) : (s.setSp v).draws = s.draws := rfl
@[simp] theorem State.setSp_bus (s : State) (v : Byte) : (s.setSp v).bus = s.bus := rfl

@[simp] theorem State.setPc_a (s : State) (w : Word) : (s.setPc w).a = s.a := rfl
@[simp] theorem State.setPc_x (s : State) (w : Word) : (s.setPc w).x = s.x := rfl
@[simp] theorem State.setPc_y (s : State) (w : Word) : (s.setPc w).y = s.y := rfl
@[simp] theorem State.setPc_sp (s : State) (w : Word) : (s.setPc w).sp = s.sp := rfl
@[simp] theorem State.setPc_pc (s : State) (w : Word) : (s.setPc w).pc = w := rfl
@[simp] theorem State.setPc_p (s : State) (w : Word) : (s.setPc w).p = s.p := rfl
@[simp] theorem State.setPc_nmiPending (s : State) (w : Word) : (s.setPc w).nmiPending = s.nmiPending := rfl
@[simp] theorem State.setPc_irqPending (s : State) (w : Word) : (s.setPc w).irqPending = s.irqPending := rfl
@[simp] theorem State.setPc_cycles (s : State) (w : Word) : (s.setPc w).cycles = s.cycles := rfl
@[simp] theorem State.setPc_mem (s : State) (w : Word) : (s.setPc w).mem = s.mem := rfl
@[simp] theorem State.setPc_draws (s : State) (w : Word) : (s.setPc w).draws = s.draws := rfl
@[simp] theorem State.setPc_bus (s : State) (w : Word) : (s.setPc w).bus = s.bus := rfl

@[simp] theorem State.setP_a (s : State) (q : Status) : (s.setP q).a = s.a := rfl
@[simp] theorem State.setP_x (s : State) (q : Status) : (s.setP q).x = s.x := rfl
@[simp] theorem State.setP_y (s : State) (q : Status) : (s.setP q).y = s.y := rfl
@[simp] theorem State.setP_sp (s : State) (q : Status) : (s.setP q).sp = s.sp := rfl
@[simp] theorem State.setP_pc (s : State) (q : Status) : (s.setP q).pc = s.pc := rfl
@[simp] theorem State.setP_p (s : State) (q : Status) : (s.setP q).p = q := rfl
@[simp] theorem State.setP_nmiPending (s : State) (q : Status) : (s.setP q).nmiPending = s.nmiPending := rfl
@[simp] theorem State.setP_irqPending (s : State) (q : Status) : (s.setP q).irqPending = s.irqPending := rfl
@[simp] theorem State.setP_cycles (s : State) (q : Status) : (s.setP q).cycles = s.cycles := rfl
@[simp] theorem State.setP_mem (s : State) (q : Status) : (s.setP q).mem = s.mem := rfl
@[simp] theorem State.setP_draws (s : State) (q : Status) : (s.setP q).draws = s.draws := rfl
@[simp] theorem State.setP_bus (s : State) (q : Status) : (s.setP q).bus = s.bus := rfl

@[simp] theorem State.setNmi_a (s : State) (on : Bool) : (s.setNmi on).a = s.a := rfl
@[simp] theorem State.setNmi_x (s : State) (on : Bool) : (s.setNmi on).x = s.x := rfl
@[simp] theorem State.setNmi_y (s : State) (on : Bool) : (s.setNmi on).y = s.y := rfl
@[simp] theorem State.setNmi_sp (s : State) (on : Bool) : (s.setNmi on).sp = s.sp := rfl
@[simp] theorem State.setNmi_pc (s : State) (on : Bool) : (s.setNmi on).pc = s.pc := rfl
@[simp] theorem State.setNmi_p (s : State) (on : Bool) : (s.setNmi on).p = s.p := rfl
@[simp] theorem State.setNmi_nmiPending (s : State) (on : Bool) : (s.setNmi on).nmiPending = on := rfl
@[simp] theorem State.setNmi_irqPending (s : State) (on : Bool) : (s.setNmi on).irqPending = s.irqPending := rfl
@[simp] theorem State.setNmi_cycles (s : State) (on : Bool) : (s.setNmi on).cycles = s.cycles := rfl
@[simp] theorem State.setNmi_mem (s : State) (on : Bool) : (s.setNmi on).mem = s.mem := rfl
@[simp] theorem State.setNmi_draws (s : State) (on : Bool) : (s.setNmi on).draws = s.draws := rfl
@[simp] theorem State.setNmi_bus (s : State) (on : Bool) : (s.setNmi on).bus = s.bus := rfl

@[simp] theorem State.setIrq_a (s : State) (on : Bool) : (s.setIrq on).a = s.a := rfl
@[simp] theorem State.setIrq_x (s : State) (on : Bool) : (s.setIrq on).x = s.x := rfl
@[simp] theorem State.setIrq_y (s : State) (on : Bool) : (s.setIrq on).y = s.y := rfl
@[simp] theorem State.setIrq_sp (s : State) (on : Bool) : (s.setIrq on).sp = s.sp := rfl
@[simp] theorem State.setIrq_pc (s : State) (on : Bool) : (s.setIrq on).pc = s.pc := rfl
@[simp] theorem State.setIrq_p (s : State) (on : Bool) : (s.setIrq on).p = s.p := rfl
@[simp] theorem State.setIrq_nmiPending (s : State) (on : Bool) : (s.setIrq on).nmiPending = s.nmiPending := rfl
@[simp] theorem State.setIrq_irqPending (s : State) (on : Bool) : (s.setIrq on).irqPending = on := rfl
@[simp] theorem State.setIrq_cycles (s : State) (on : Bool) : (s.setIrq on).cycles = s.cycles := rfl
@[simp] theorem State.setIrq_mem (s : State) (on : Bool) : (s.setIrq on).mem = s.mem := rfl
@[simp] theorem State.setIrq_draws (s : State) (on : Bool) : (s.setIrq on).draws = s.draws := rfl
@[simp] theorem State.setIrq_bus (s : State) (on : Bool) : (s.setIrq on).bus = s.bus := rfl

@[simp] theorem State.setMem_a (s : State) (m : Memory) : (s.setMem m).a = s.a := rfl
@[simp] theorem State.setMem_x (s : State) (m : Memory) : (s.setMem m).x = s.x := rfl
@[simp] theorem State.setMem_y (s : State) (m : Memory) : (s.setMem m).y = s.y := rfl
@[simp] theorem State.setMem_sp (s : State) (m : Memory) : (s.setMem m).sp = s.sp := rfl
@[simp] theorem State.setMem_pc (s : State) (m : Memory) : (s.setMem m).pc = s.pc := rfl
@[simp] theorem State.setMem_p (s : State) (m : Memory) : (s.setMem m).p = s.p := rfl
@[simp] theorem State.setMem_nmiPending (s : State) (m : Memory) : (s.setMem m).nmiPending = s.nmiPending := rfl
@[simp] theorem State.setMem_irqPending (s : State) (m : Memory) : (s.setMem m).irqPending = s.irqPending := rfl
@[simp] theorem State.setMem_cycles (s : State) (m : Memory) : (s.setMem m).cycles = s.cycles := rfl
@[simp] theorem State.setMem_mem (s : State) (m : Memory) : (s.setMem m).mem = m := rfl
@[simp] theorem State.setMem_draws (s : State) (m : Memory) : (s.setMem m).draws = s.draws := rfl
@[simp] theorem State.setMem_bus (s : State) (m : Memory) : (s.setMem m).bus = s.bus := rfl

@[simp] theorem State.charge_a (s : State) (n : Nat) : (s.charge n).a = s.a := rfl
@[simp] theorem State.charge_x (s : State) (n : Nat) : (s.charge n).x = s.x := rfl
@[simp] theorem State.charge_y (s : State) (n : Nat) : (s.charge n).y = s.y := rfl
@[simp] theorem State.charge_sp (s : State) (n : Nat) : (s.charge n).sp = s.sp := rfl
@[simp] theorem State.charge_pc (s : State) (n : Nat) : (s.charge n).pc = s.pc := rfl
@[simp] theorem State.charge_p (s : State) (n : Nat) : (s.charge n).p = s.p := rfl
@[simp] theorem State.charge_nmiPending (s : State) (n : Nat) : (s.charge n).nmiPending = s.nmiPending := rfl
@[simp] theorem State.charge_irqPending (s : State) (n : Nat) : (s.charge n).irqPending = s.irqPending := rfl
@[simp] theorem State.charge_cycles (s : State) (n : Nat) : (s.charge n).cycles = s.cycles + n := rfl
@[simp] theorem State.charge_mem (s : State) (n : Nat) : (s.charge n).mem = s.mem := rfl
@[simp] theorem State.charge_draws (s : State) (n : Nat) : (s.charge n).draws = s.draws := rfl
@[simp] theorem State.charge_bus (s : State) (n : Nat) : (s.charge n).bus = s.bus := rfl

@[simp] theorem State.takeDraw_a (s : State) : (s.takeDraw).a = s.a := rfl
@[simp] theorem State.takeDraw_x (s : State) : (s.takeDraw).x = s.x := rfl
@[simp] theorem State.takeDraw_y (s : State) : (s.takeDraw).y = s.y := rfl
@[simp] theorem State.takeDraw_sp (s : State) : (s.takeDraw).sp = s.sp := rfl
@[simp] theorem State.takeDraw_pc (s : State) : (s.takeDraw).pc = s.pc := rfl
@[simp] theorem State.takeDraw_p (s : State) : (s.takeDraw).p = s.p := rfl
@[simp] theorem State.takeDraw_nmiPending (s : State) : (s.takeDraw).nmiPending = s.nmiPending := rfl
@[simp] theorem State.takeDraw_irqPending (s : State) : (s.takeDraw).irqPending = s.irqPending := rfl
@[simp] theorem State.takeDraw_cycles (s : State) : (s.takeDraw).cycles = s.cycles := rfl
@[simp] theorem State.takeDraw_mem (s : State) : (s.takeDraw).mem = s.mem := rfl
@[simp] theorem State.takeDraw_draws (s : State) : (s.takeDraw).draws = s.draws + 1 := rfl
@[simp] theorem State.takeDraw_bus (s : State) : (s.takeDraw).bus = s.bus := rfl

@[simp] theorem State.record_a (s : State) (t : Transaction) : (s.record t).a = s.a := rfl
@[simp] theorem State.record_x (s : State) (t : Transaction) : (s.record t).x = s.x := rfl
@[simp] theorem State.record_y (s : State) (t : Transaction) : (s.record t).y = s.y := rfl
@[simp] theorem State.record_sp (s : State) (t : Transaction) : (s.record t).sp = s.sp := rfl
@[simp] theorem State.record_pc (s : State) (t : Transaction) : (s.record t).pc = s.pc := rfl
@[simp] theorem State.record_p (s : State) (t : Transaction) : (s.record t).p = s.p := rfl
@[simp] theorem State.record_nmiPending (s : State) (t : Transaction) : (s.record t).nmiPending = s.nmiPending := rfl
@[simp] theorem State.record_irqPending (s : State) (t : Transaction) : (s.record t).irqPending = s.irqPending := rfl
@[simp] theorem State.record_cycles (s : State) (t : Transaction) : (s.record t).cycles = s.cycles := rfl
@[simp] theorem State.record_mem (s : State) (t : Transaction) : (s.record t).mem = s.mem := rfl
@[simp] theorem State.record_draws (s : State) (t : Transaction) : (s.record t).draws = s.draws := rfl
@[simp] theorem State.record_bus (s : State) (t : Transaction) : (s.record t).bus = s.bus ++ [t] := rfl

@[simp] theorem State.clearBus_a (s : State) : (s.clearBus).a = s.a := rfl
@[simp] theorem State.clearBus_x (s : State) : (s.clearBus).x = s.x := rfl
@[simp] theorem State.clearBus_y (s : State) : (s.clearBus).y = s.y := rfl
@[simp] theorem State.clearBus_sp (s : State) : (s.clearBus).sp = s.sp := rfl
@[simp] theorem State.clearBus_pc (s : State) : (s.clearBus).pc = s.pc := rfl
@[simp] theorem State.clearBus_p (s : State) : (s.clearBus).p = s.p := rfl
@[simp] theorem State.clearBus_nmiPending (s : State) : (s.clearBus).nmiPending = s.nmiPending := rfl
@[simp] theorem State.clearBus_irqPending (s : State) : (s.clearBus).irqPending = s.irqPending := rfl
@[simp] theorem State.clearBus_cycles (s : State) : (s.clearBus).cycles = s.cycles := rfl
@[simp] theorem State.clearBus_mem (s : State) : (s.clearBus).mem = s.mem := rfl
@[simp] theorem State.clearBus_draws (s : State) : (s.clearBus).draws = s.draws := rfl
@[simp] theorem State.clearBus_bus (s : State) : (s.clearBus).bus = [] := rfl

@[simp] theorem State.advance_a (s : State) (n : Nat) : (s.advance n).a = s.a := rfl
@[simp] theorem State.advance_x (s : State) (n : Nat) : (s.advance n).x = s.x := rfl
@[simp] theorem State.advance_y (s : State) (n : Nat) : (s.advance n).y = s.y := rfl
@[simp] theorem State.advance_sp (s : State) (n : Nat) : (s.advance n).sp = s.sp := rfl
@[simp] theorem State.advance_pc (s : State) (n : Nat) : (s.advance n).pc = s.pc + BitVec.ofNat 16 n := rfl
@[simp] theorem State.advance_p (s : State) (n : Nat) : (s.advance n).p = s.p := rfl
@[simp] theorem State.advance_nmiPending (s : State) (n : Nat) : (s.advance n).nmiPending = s.nmiPending := rfl
@[simp] theorem State.advance_irqPending (s : State) (n : Nat) : (s.advance n).irqPending = s.irqPending := rfl
@[simp] theorem State.advance_cycles (s : State) (n : Nat) : (s.advance n).cycles = s.cycles := rfl
@[simp] theorem State.advance_mem (s : State) (n : Nat) : (s.advance n).mem = s.mem := rfl
@[simp] theorem State.advance_draws (s : State) (n : Nat) : (s.advance n).draws = s.draws := rfl
@[simp] theorem State.advance_bus (s : State) (n : Nat) : (s.advance n).bus = s.bus := rfl

end Sys2Proof.Machine
end

