-- ==== Sys2Proof/Laws/Memory.lean ====
section
/-! SUPPORT. Storage: a read after a write, the canonical form that every memory operation keeps, and the address
map. -/

namespace Sys2Proof.Machine

/-! ## Reads and writes of storage -/

theorem Memory.get_erase (m : Memory) (a b : Nat) :
    (m.erase a).get b = if b = a then Config.unlistedByte else m.get b := by
  induction m with
  | nil => simp [Memory.erase, Memory.get]
  | cons c m ih =>
    simp only [Memory.erase, List.filter_cons] at *
    by_cases h : c.1 = a
    · subst h
      by_cases hb : b = c.1
      · subst hb
        simpa using ih
      · simp [ih, hb, Memory.get, Ne.symm hb]
    · simp only [bne_iff_ne, ne_eq, h, not_false_eq_true, if_true, Memory.get, ih]
      by_cases hb : c.1 = b
      · have hba : b ≠ a := by omega
        simp [hb, hba]
      · simp [hb]

/-- Inserting where the address is not listed yet. -/
theorem Memory.get_insert (m : Memory) (a b : Nat) (v : Byte) (hm : ∀ c ∈ m, c.1 ≠ a) :
    (m.insert a v).get b = if b = a then v else m.get b := by
  induction m with
  | nil => simp only [Memory.insert, Memory.get, eq_comm]
  | cons c m ih =>
    have hc : c.1 ≠ a := hm c (by simp)
    have ih' := ih (fun d hd => hm d (by simp [hd]))
    simp only [Memory.insert]
    split
    · simp only [Memory.get, eq_comm]
    · simp only [Memory.get, ih']
      by_cases hb : c.1 = b
      · have hba : b ≠ a := by omega
        simp [hb, hba]
      · simp [hb]

theorem Memory.ne_of_mem_erase {m : Memory} {a : Nat} {c : Host.Cell} (h : c ∈ m.erase a) : c.1 ≠ a := by
  simp only [Memory.erase, List.mem_filter, bne_iff_ne, ne_eq] at h
  exact h.2

/-- A read after a write: the byte written at its address, and what was there before everywhere else. -/
theorem Memory.get_set (m : Memory) (a b : Nat) (v : Byte) :
    (m.set a v).get b = if b = a then v else m.get b := by
  unfold Memory.set
  split
  · next h => rw [Memory.get_erase, h]
  · rw [Memory.get_insert _ _ _ _ (fun c hc => Memory.ne_of_mem_erase hc), Memory.get_erase]
    by_cases hb : b = a <;> simp [hb]

/-! ## The canonical form -/

theorem Memory.wf_nil : Memory.wf [] := by simp [Memory.wf]

theorem Memory.wf_erase {m : Memory} (h : m.wf) (a : Nat) : (m.erase a).wf :=
  ⟨h.1.filter _, fun c hc => h.2 c (List.mem_of_mem_filter hc)⟩

theorem Memory.mem_insert {m : Memory} {a : Nat} {v : Byte} {c : Host.Cell} (h : c ∈ m.insert a v) :
    c = (a, v) ∨ c ∈ m := by
  induction m with
  | nil => simpa [Memory.insert] using h
  | cons d m ih =>
    simp only [Memory.insert] at h
    split at h
    · simpa using h
    · rcases List.mem_cons.1 h with rfl | h
      · simp
      · rcases ih h with h | h <;> simp [h]

theorem Memory.pairwise_insert {m : Memory} (h : m.Pairwise (fun c d => c.1 < d.1)) (a : Nat) (v : Byte)
    (hm : ∀ c ∈ m, c.1 ≠ a) : (m.insert a v).Pairwise (fun c d => c.1 < d.1) := by
  induction m with
  | nil => simp [Memory.insert]
  | cons d m ih =>
    have hd : d.1 ≠ a := hm d (by simp)
    rw [List.pairwise_cons] at h
    simp only [Memory.insert]
    split
    · next hlt =>
      refine List.pairwise_cons.2 ⟨fun c hc => ?_, List.pairwise_cons.2 h⟩
      rcases List.mem_cons.1 hc with rfl | hc
      · exact hlt
      · exact Nat.lt_trans hlt (h.1 c hc)
    · next hge =>
      refine List.pairwise_cons.2 ⟨fun c hc => ?_, ih h.2 (fun c hc => hm c (by simp [hc]))⟩
      rcases Memory.mem_insert hc with rfl | hc
      · show d.1 < a
        omega
      · exact h.1 c hc

/-- A write at a storage address keeps the canonical form. -/
theorem Memory.wf_set {m : Memory} (h : m.wf) {a : Nat} (ha : isStorageAddress a = true) (v : Byte) :
    (m.set a v).wf := by
  unfold Memory.set
  split
  · exact Memory.wf_erase h a
  · next hv =>
    have he := Memory.wf_erase h a
    refine ⟨Memory.pairwise_insert he.1 a v (fun c hc => Memory.ne_of_mem_erase hc), fun c hc => ?_⟩
    rcases Memory.mem_insert hc with rfl | hc
    · exact ⟨ha, hv⟩
    · exact he.2 c hc

/-! ## The address map -/

/-- A region that stores writes is backed by storage. -/
theorem Region.isStorage_of_isWritable {r : Region} (h : r.isWritable = true) : r.isStorage = true := by
  cases r <;> first | rfl | cases h

/-- The region of an address, by range (20_memory.md R52). -/
theorem region_cases (addr : Word) :
    (addr.toNat < 0x2000 ∧ region addr = .ram)
    ∨ (0x2000 ≤ addr.toNat ∧ addr.toNat < 0x4000 ∧ region addr = .ppu)
    ∨ (0x4000 ≤ addr.toNat ∧ addr.toNat < 0x4018 ∧ region addr = .apu)
    ∨ (0x4018 ≤ addr.toNat ∧ addr.toNat < 0x4020 ∧ region addr = .apuTest)
    ∨ (0x4020 ≤ addr.toNat ∧ addr.toNat < 0x6000 ∧ region addr = .unmapped)
    ∨ (0x6000 ≤ addr.toNat ∧ addr.toNat < 0x8000 ∧ region addr = .prgRam)
    ∨ (0x8000 ≤ addr.toNat ∧ region addr = .prgRom) := by
  have htop : addr.toNat < 65536 := addr.isLt
  simp only [region, Config.prgRomSize, Nat.reduceAdd, htop, if_true]
  split_ifs <;> simp <;> omega

theorem region_ram {addr : Word} (h : addr.toNat < 0x2000) : region addr = .ram := by
  simp [region, h]

theorem canon_ram {addr : Word} (h : addr.toNat < 0x2000) : (canon addr).toNat = addr.toNat % 0x800 := by
  have h' : addr.toNat ≤ 0x1FFF := by omega
  simp only [canon, h', if_true]
  rw [BitVec.toNat_and]
  exact Nat.and_two_pow_sub_one_eq_mod addr.toNat 11

theorem canon_high {addr : Word} (h : 0x4000 ≤ addr.toNat) : canon addr = addr := by
  have h1 : ¬ addr.toNat ≤ 0x1FFF := by omega
  have h2 : ¬ addr.toNat ≤ 0x3FFF := by omega
  simp [canon, h1, h2]

/-- The canonical address of a byte of storage is a storage address. -/
theorem isStorageAddress_canon {addr : Word} (h : (region addr).isStorage = true) :
    isStorageAddress (canon addr).toNat = true := by
  have htop : addr.toNat < 65536 := addr.isLt
  rcases region_cases addr with ⟨h1, h2⟩ | ⟨_, _, h2⟩ | ⟨_, _, h2⟩ | ⟨_, _, h2⟩ | ⟨_, _, h2⟩ | ⟨h1, _, h2⟩ | ⟨h1, h2⟩
  · rw [canon_ram h1]
    simp [isStorageAddress]
    omega
  all_goals first
    | (rw [h2] at h; exact absurd h (by decide))
    | (rw [canon_high (by omega)]; simp [isStorageAddress, Config.prgRomSize, htop]; omega)

/-! ## The operations on State -/

theorem State.stored_place (s : State) (addr b : Word) (v : Byte) :
    (s.place addr v).stored b
      = if (region addr).isStorage = true ∧ canon b = canon addr then v else s.stored b := by
  unfold State.place State.stored
  split
  · next h =>
    simp only [State.setMem_mem, Memory.get_set, h, true_and, BitVec.toNat_inj]
  · next h => simp [h]

theorem State.wf_place {s : State} (h : s.mem.wf) (addr : Word) (v : Byte) : (s.place addr v).mem.wf := by
  unfold State.place
  split
  · next hs => exact Memory.wf_set h (isStorageAddress_canon hs) v
  · exact h

end Sys2Proof.Machine
end

