-- ==== Sys2Proof/Laws/Ops.lean ====
section
/-! SUPPORT. What each shared operation of Machine/Ops.lean does to each field of State, and that each keeps the
canonical form of memory. -/

namespace Sys2Proof.Machine

/-! ## Reads: they change only `draws` and `bus` -/

@[simp] theorem memRead_a (addr : Word) (s : State) : ((memRead addr s).2).a = s.a := by unfold memRead; split <;> simp
@[simp] theorem memRead_x (addr : Word) (s : State) : ((memRead addr s).2).x = s.x := by unfold memRead; split <;> simp
@[simp] theorem memRead_y (addr : Word) (s : State) : ((memRead addr s).2).y = s.y := by unfold memRead; split <;> simp
@[simp] theorem memRead_sp (addr : Word) (s : State) : ((memRead addr s).2).sp = s.sp := by unfold memRead; split <;> simp
@[simp] theorem memRead_pc (addr : Word) (s : State) : ((memRead addr s).2).pc = s.pc := by unfold memRead; split <;> simp
@[simp] theorem memRead_p (addr : Word) (s : State) : ((memRead addr s).2).p = s.p := by unfold memRead; split <;> simp
@[simp] theorem memRead_nmiPending (addr : Word) (s : State) : ((memRead addr s).2).nmiPending = s.nmiPending := by unfold memRead; split <;> simp
@[simp] theorem memRead_irqPending (addr : Word) (s : State) : ((memRead addr s).2).irqPending = s.irqPending := by unfold memRead; split <;> simp
@[simp] theorem memRead_cycles (addr : Word) (s : State) : ((memRead addr s).2).cycles = s.cycles := by unfold memRead; split <;> simp
@[simp] theorem memRead_mem (addr : Word) (s : State) : ((memRead addr s).2).mem = s.mem := by unfold memRead; split <;> simp

@[simp] theorem readPair_a (lo hi : Word) (s : State) : ((readPair lo hi s).2).a = s.a := by simp [readPair]
@[simp] theorem readPair_x (lo hi : Word) (s : State) : ((readPair lo hi s).2).x = s.x := by simp [readPair]
@[simp] theorem readPair_y (lo hi : Word) (s : State) : ((readPair lo hi s).2).y = s.y := by simp [readPair]
@[simp] theorem readPair_sp (lo hi : Word) (s : State) : ((readPair lo hi s).2).sp = s.sp := by simp [readPair]
@[simp] theorem readPair_pc (lo hi : Word) (s : State) : ((readPair lo hi s).2).pc = s.pc := by simp [readPair]
@[simp] theorem readPair_p (lo hi : Word) (s : State) : ((readPair lo hi s).2).p = s.p := by simp [readPair]
@[simp] theorem readPair_nmiPending (lo hi : Word) (s : State) : ((readPair lo hi s).2).nmiPending = s.nmiPending := by simp [readPair]
@[simp] theorem readPair_irqPending (lo hi : Word) (s : State) : ((readPair lo hi s).2).irqPending = s.irqPending := by simp [readPair]
@[simp] theorem readPair_cycles (lo hi : Word) (s : State) : ((readPair lo hi s).2).cycles = s.cycles := by simp [readPair]
@[simp] theorem readPair_mem (lo hi : Word) (s : State) : ((readPair lo hi s).2).mem = s.mem := by simp [readPair]

@[simp] theorem read16_a (addr : Word) (s : State) : ((read16 addr s).2).a = s.a := by simp [read16]
@[simp] theorem read16_x (addr : Word) (s : State) : ((read16 addr s).2).x = s.x := by simp [read16]
@[simp] theorem read16_y (addr : Word) (s : State) : ((read16 addr s).2).y = s.y := by simp [read16]
@[simp] theorem read16_sp (addr : Word) (s : State) : ((read16 addr s).2).sp = s.sp := by simp [read16]
@[simp] theorem read16_pc (addr : Word) (s : State) : ((read16 addr s).2).pc = s.pc := by simp [read16]
@[simp] theorem read16_p (addr : Word) (s : State) : ((read16 addr s).2).p = s.p := by simp [read16]
@[simp] theorem read16_nmiPending (addr : Word) (s : State) : ((read16 addr s).2).nmiPending = s.nmiPending := by simp [read16]
@[simp] theorem read16_irqPending (addr : Word) (s : State) : ((read16 addr s).2).irqPending = s.irqPending := by simp [read16]
@[simp] theorem read16_cycles (addr : Word) (s : State) : ((read16 addr s).2).cycles = s.cycles := by simp [read16]
@[simp] theorem read16_mem (addr : Word) (s : State) : ((read16 addr s).2).mem = s.mem := by simp [read16]

/-! ## Writes and pushes -/

@[simp] theorem place_a (addr : Word) (v : Byte) (s : State) : (s.place addr v).a = s.a := by unfold State.place; split <;> simp
@[simp] theorem place_x (addr : Word) (v : Byte) (s : State) : (s.place addr v).x = s.x := by unfold State.place; split <;> simp
@[simp] theorem place_y (addr : Word) (v : Byte) (s : State) : (s.place addr v).y = s.y := by unfold State.place; split <;> simp
@[simp] theorem place_sp (addr : Word) (v : Byte) (s : State) : (s.place addr v).sp = s.sp := by unfold State.place; split <;> simp
@[simp] theorem place_pc (addr : Word) (v : Byte) (s : State) : (s.place addr v).pc = s.pc := by unfold State.place; split <;> simp
@[simp] theorem place_p (addr : Word) (v : Byte) (s : State) : (s.place addr v).p = s.p := by unfold State.place; split <;> simp
@[simp] theorem place_nmiPending (addr : Word) (v : Byte) (s : State) : (s.place addr v).nmiPending = s.nmiPending := by unfold State.place; split <;> simp
@[simp] theorem place_irqPending (addr : Word) (v : Byte) (s : State) : (s.place addr v).irqPending = s.irqPending := by unfold State.place; split <;> simp
@[simp] theorem place_cycles (addr : Word) (v : Byte) (s : State) : (s.place addr v).cycles = s.cycles := by unfold State.place; split <;> simp
@[simp] theorem place_draws (addr : Word) (v : Byte) (s : State) : (s.place addr v).draws = s.draws := by unfold State.place; split <;> simp
@[simp] theorem place_bus (addr : Word) (v : Byte) (s : State) : (s.place addr v).bus = s.bus := by unfold State.place; split <;> simp

@[simp] theorem memWrite_a (addr : Word) (v : Byte) (s : State) : (memWrite addr v s).a = s.a := by unfold memWrite; split <;> simp
@[simp] theorem memWrite_x (addr : Word) (v : Byte) (s : State) : (memWrite addr v s).x = s.x := by unfold memWrite; split <;> simp
@[simp] theorem memWrite_y (addr : Word) (v : Byte) (s : State) : (memWrite addr v s).y = s.y := by unfold memWrite; split <;> simp
@[simp] theorem memWrite_sp (addr : Word) (v : Byte) (s : State) : (memWrite addr v s).sp = s.sp := by unfold memWrite; split <;> simp
@[simp] theorem memWrite_pc (addr : Word) (v : Byte) (s : State) : (memWrite addr v s).pc = s.pc := by unfold memWrite; split <;> simp
@[simp] theorem memWrite_p (addr : Word) (v : Byte) (s : State) : (memWrite addr v s).p = s.p := by unfold memWrite; split <;> simp
@[simp] theorem memWrite_nmiPending (addr : Word) (v : Byte) (s : State) : (memWrite addr v s).nmiPending = s.nmiPending := by unfold memWrite; split <;> simp
@[simp] theorem memWrite_irqPending (addr : Word) (v : Byte) (s : State) : (memWrite addr v s).irqPending = s.irqPending := by unfold memWrite; split <;> simp
@[simp] theorem memWrite_cycles (addr : Word) (v : Byte) (s : State) : (memWrite addr v s).cycles = s.cycles := by unfold memWrite; split <;> simp
@[simp] theorem memWrite_draws (addr : Word) (v : Byte) (s : State) : (memWrite addr v s).draws = s.draws := by unfold memWrite; split <;> simp
@[simp] theorem memWrite_bus (addr : Word) (v : Byte) (s : State) : (memWrite addr v s).bus = s.bus ++ [.write addr v] := by unfold memWrite; split <;> simp

@[simp] theorem push_a (v : Byte) (s : State) : (push v s).a = s.a := by simp [push]
@[simp] theorem push_x (v : Byte) (s : State) : (push v s).x = s.x := by simp [push]
@[simp] theorem push_y (v : Byte) (s : State) : (push v s).y = s.y := by simp [push]
@[simp] theorem push_sp (v : Byte) (s : State) : (push v s).sp = s.sp - 1#8 := by simp [push]
@[simp] theorem push_pc (v : Byte) (s : State) : (push v s).pc = s.pc := by simp [push]
@[simp] theorem push_p (v : Byte) (s : State) : (push v s).p = s.p := by simp [push]
@[simp] theorem push_nmiPending (v : Byte) (s : State) : (push v s).nmiPending = s.nmiPending := by simp [push]
@[simp] theorem push_irqPending (v : Byte) (s : State) : (push v s).irqPending = s.irqPending := by simp [push]
@[simp] theorem push_cycles (v : Byte) (s : State) : (push v s).cycles = s.cycles := by simp [push]
@[simp] theorem push_draws (v : Byte) (s : State) : (push v s).draws = s.draws := by simp [push]
@[simp] theorem push_bus (v : Byte) (s : State) : (push v s).bus = s.bus ++ [.write (stackAddr s.sp) v] := by simp [push]

@[simp] theorem pushWord_a (w : Word) (s : State) : (pushWord w s).a = s.a := by simp [pushWord]
@[simp] theorem pushWord_x (w : Word) (s : State) : (pushWord w s).x = s.x := by simp [pushWord]
@[simp] theorem pushWord_y (w : Word) (s : State) : (pushWord w s).y = s.y := by simp [pushWord]
@[simp] theorem pushWord_sp (w : Word) (s : State) : (pushWord w s).sp = s.sp - 1#8 - 1#8 := by simp [pushWord]
@[simp] theorem pushWord_pc (w : Word) (s : State) : (pushWord w s).pc = s.pc := by simp [pushWord]
@[simp] theorem pushWord_p (w : Word) (s : State) : (pushWord w s).p = s.p := by simp [pushWord]
@[simp] theorem pushWord_nmiPending (w : Word) (s : State) : (pushWord w s).nmiPending = s.nmiPending := by simp [pushWord]
@[simp] theorem pushWord_irqPending (w : Word) (s : State) : (pushWord w s).irqPending = s.irqPending := by simp [pushWord]
@[simp] theorem pushWord_cycles (w : Word) (s : State) : (pushWord w s).cycles = s.cycles := by simp [pushWord]
@[simp] theorem pushWord_draws (w : Word) (s : State) : (pushWord w s).draws = s.draws := by simp [pushWord]

/-! ## Pulls -/

@[simp] theorem pull_a (s : State) : ((pull s).2).a = s.a := by simp [pull]
@[simp] theorem pull_x (s : State) : ((pull s).2).x = s.x := by simp [pull]
@[simp] theorem pull_y (s : State) : ((pull s).2).y = s.y := by simp [pull]
@[simp] theorem pull_sp (s : State) : ((pull s).2).sp = s.sp + 1#8 := by simp [pull]
@[simp] theorem pull_pc (s : State) : ((pull s).2).pc = s.pc := by simp [pull]
@[simp] theorem pull_p (s : State) : ((pull s).2).p = s.p := by simp [pull]
@[simp] theorem pull_nmiPending (s : State) : ((pull s).2).nmiPending = s.nmiPending := by simp [pull]
@[simp] theorem pull_irqPending (s : State) : ((pull s).2).irqPending = s.irqPending := by simp [pull]
@[simp] theorem pull_cycles (s : State) : ((pull s).2).cycles = s.cycles := by simp [pull]
@[simp] theorem pull_mem (s : State) : ((pull s).2).mem = s.mem := by simp [pull]

@[simp] theorem pullWord_a (s : State) : ((pullWord s).2).a = s.a := by simp [pullWord]
@[simp] theorem pullWord_x (s : State) : ((pullWord s).2).x = s.x := by simp [pullWord]
@[simp] theorem pullWord_y (s : State) : ((pullWord s).2).y = s.y := by simp [pullWord]
@[simp] theorem pullWord_sp (s : State) : ((pullWord s).2).sp = s.sp + 1#8 + 1#8 := by simp [pullWord]
@[simp] theorem pullWord_pc (s : State) : ((pullWord s).2).pc = s.pc := by simp [pullWord]
@[simp] theorem pullWord_p (s : State) : ((pullWord s).2).p = s.p := by simp [pullWord]
@[simp] theorem pullWord_nmiPending (s : State) : ((pullWord s).2).nmiPending = s.nmiPending := by simp [pullWord]
@[simp] theorem pullWord_irqPending (s : State) : ((pullWord s).2).irqPending = s.irqPending := by simp [pullWord]
@[simp] theorem pullWord_cycles (s : State) : ((pullWord s).2).cycles = s.cycles := by simp [pullWord]
@[simp] theorem pullWord_mem (s : State) : ((pullWord s).2).mem = s.mem := by simp [pullWord]

/-! ## Taking an exception and returning -/

@[simp] theorem enterHandler_a (ret : Word) (brk : Bool) (vector : Word) (s : State) : (enterHandler ret brk vector s).a = s.a := by simp [enterHandler]
@[simp] theorem enterHandler_x (ret : Word) (brk : Bool) (vector : Word) (s : State) : (enterHandler ret brk vector s).x = s.x := by simp [enterHandler]
@[simp] theorem enterHandler_y (ret : Word) (brk : Bool) (vector : Word) (s : State) : (enterHandler ret brk vector s).y = s.y := by simp [enterHandler]
@[simp] theorem enterHandler_sp (ret : Word) (brk : Bool) (vector : Word) (s : State) : (enterHandler ret brk vector s).sp = s.sp - 1#8 - 1#8 - 1#8 := by simp [enterHandler]
@[simp] theorem enterHandler_p (ret : Word) (brk : Bool) (vector : Word) (s : State) : (enterHandler ret brk vector s).p = { s.p with i := true } := by simp [enterHandler]
@[simp] theorem enterHandler_nmiPending (ret : Word) (brk : Bool) (vector : Word) (s : State) : (enterHandler ret brk vector s).nmiPending = s.nmiPending := by simp [enterHandler]
@[simp] theorem enterHandler_irqPending (ret : Word) (brk : Bool) (vector : Word) (s : State) : (enterHandler ret brk vector s).irqPending = s.irqPending := by simp [enterHandler]
@[simp] theorem enterHandler_cycles (ret : Word) (brk : Bool) (vector : Word) (s : State) : (enterHandler ret brk vector s).cycles = s.cycles := by simp [enterHandler]

@[simp] theorem leaveHandler_a (s : State) : (leaveHandler s).a = s.a := by simp [leaveHandler]
@[simp] theorem leaveHandler_x (s : State) : (leaveHandler s).x = s.x := by simp [leaveHandler]
@[simp] theorem leaveHandler_y (s : State) : (leaveHandler s).y = s.y := by simp [leaveHandler]
@[simp] theorem leaveHandler_sp (s : State) : (leaveHandler s).sp = s.sp + 1#8 + 1#8 + 1#8 := by simp [leaveHandler]
@[simp] theorem leaveHandler_nmiPending (s : State) : (leaveHandler s).nmiPending = s.nmiPending := by simp [leaveHandler]
@[simp] theorem leaveHandler_irqPending (s : State) : (leaveHandler s).irqPending = s.irqPending := by simp [leaveHandler]
@[simp] theorem leaveHandler_cycles (s : State) : (leaveHandler s).cycles = s.cycles := by simp [leaveHandler]
@[simp] theorem leaveHandler_mem (s : State) : (leaveHandler s).mem = s.mem := by simp [leaveHandler]

/-! ## Values -/

/-- What a read yields: the stored byte or the next draw (20_memory.md R41, R55 to R57). -/
theorem memRead_val (addr : Word) (s : State) :
    (memRead addr s).1 = if (region addr).isStorage then s.stored addr else Config.draw s.draws := by
  unfold memRead; split <;> rfl

/-- A read of storage takes no draw. -/
theorem memRead_draws (addr : Word) (s : State) :
    (memRead addr s).2.draws = if (region addr).isStorage then s.draws else s.draws + 1 := by
  unfold memRead; split <;> simp

/-- A read records one transaction. -/
theorem memRead_bus (addr : Word) (s : State) :
    (memRead addr s).2.bus = s.bus ++ [.read addr (memRead addr s).1] := by
  unfold memRead; split <;> simp

/-- `stored` looks at memory alone. -/
theorem stored_congr {s t : State} (h : s.mem = t.mem) (addr : Word) : s.stored addr = t.stored addr := by
  unfold State.stored; rw [h]

/-- A write by the core, seen through storage (20_memory.md R47, R53, R59). -/
theorem stored_memWrite (addr b : Word) (v : Byte) (s : State) :
    (memWrite addr v s).stored b
      = if (region addr).isWritable = true ∧ canon b = canon addr then v else s.stored b := by
  unfold memWrite
  by_cases h : (region addr).isWritable = true
  · simp only [h, if_true, State.stored_place, Region.isStorage_of_isWritable h, true_and]
    rfl
  · simp only [h]
    rfl

theorem stored_push (v : Byte) (b : Word) (s : State) :
    (push v s).stored b
      = if (region (stackAddr s.sp)).isWritable = true ∧ canon b = canon (stackAddr s.sp) then v else s.stored b := by
  rw [← stored_memWrite]
  exact stored_congr (by simp [push]) b

/-! ## The stack page -/

theorem toNat_stackAddr (sp : Byte) : (stackAddr sp).toNat = 0x100 + sp.toNat := by
  have := sp.isLt
  simp only [stackAddr, Config.stackPage, zext16, BitVec.toNat_add, BitVec.toNat_setWidth, BitVec.toNat_ofNat]
  omega

theorem region_stackAddr (sp : Byte) : region (stackAddr sp) = .ram :=
  region_ram (by rw [toNat_stackAddr]; have := sp.isLt; omega)

theorem canon_stackAddr (sp : Byte) : (canon (stackAddr sp)).toNat = 0x100 + sp.toNat := by
  have := sp.isLt
  rw [canon_ram (by rw [toNat_stackAddr]; omega), toNat_stackAddr]
  omega

/-- Two stack slots are one byte only for equal values of SP. -/
theorem canon_stackAddr_inj (p q : Byte) : canon (stackAddr p) = canon (stackAddr q) ↔ p = q := by
  constructor
  · intro h
    have h' := congrArg BitVec.toNat h
    rw [canon_stackAddr, canon_stackAddr] at h'
    exact BitVec.eq_of_toNat_eq (by omega)
  · rintro rfl; rfl

/-- What a push leaves in a stack slot. -/
theorem stored_push_stackAddr (v q : Byte) (s : State) :
    (push v s).stored (stackAddr q) = if q = s.sp then v else s.stored (stackAddr q) := by
  rw [stored_push, region_stackAddr]
  simp only [Region.isWritable, true_and, canon_stackAddr_inj]

/-- What a pull yields. -/
theorem pull_val (s : State) : (pull s).1 = s.stored (stackAddr (s.sp + 1#8)) := by
  unfold pull
  rw [memRead_val, region_stackAddr]
  rfl

/-! ## The canonical form of memory -/

theorem memWrite_wf {s : State} (h : s.mem.wf) (addr : Word) (v : Byte) : (memWrite addr v s).mem.wf := by
  unfold memWrite
  split
  · exact State.wf_place (by simpa using h) addr v
  · simpa using h

theorem push_wf {s : State} (h : s.mem.wf) (v : Byte) : (push v s).mem.wf := by
  simpa [push] using memWrite_wf h (stackAddr s.sp) v

theorem pushWord_wf {s : State} (h : s.mem.wf) (w : Word) : (pushWord w s).mem.wf := push_wf (push_wf h _) _

theorem enterHandler_wf {s : State} (h : s.mem.wf) (ret : Word) (brk : Bool) (vector : Word) :
    (enterHandler ret brk vector s).mem.wf := by
  simpa [enterHandler] using push_wf (pushWord_wf h ret) _

theorem placeBytes_wf (vs : List Byte) {s : State} (h : s.mem.wf) (addr : Word) : (placeBytes vs addr s).mem.wf := by
  induction vs generalizing s addr with
  | nil => exact h
  | cons v vs ih => exact ih (State.wf_place h addr v) _

end Sys2Proof.Machine
end

