-- ==== Sys2Proof/Laws/Operands.lean ====
section
/-! SUPPORT. What resolving and loading an operand does to each field of State, and the outcome of each shape of
instruction. -/

namespace Sys2Proof.Machine

@[simp] theorem indexed_a (base : Word) (index : Byte) (s : State) : ((indexed base index s).st).a = s.a := by rfl
@[simp] theorem indexed_x (base : Word) (index : Byte) (s : State) : ((indexed base index s).st).x = s.x := by rfl
@[simp] theorem indexed_y (base : Word) (index : Byte) (s : State) : ((indexed base index s).st).y = s.y := by rfl
@[simp] theorem indexed_sp (base : Word) (index : Byte) (s : State) : ((indexed base index s).st).sp = s.sp := by rfl
@[simp] theorem indexed_pc (base : Word) (index : Byte) (s : State) : ((indexed base index s).st).pc = s.pc := by rfl
@[simp] theorem indexed_p (base : Word) (index : Byte) (s : State) : ((indexed base index s).st).p = s.p := by rfl
@[simp] theorem indexed_nmiPending (base : Word) (index : Byte) (s : State) : ((indexed base index s).st).nmiPending = s.nmiPending := by rfl
@[simp] theorem indexed_irqPending (base : Word) (index : Byte) (s : State) : ((indexed base index s).st).irqPending = s.irqPending := by rfl
@[simp] theorem indexed_cycles (base : Word) (index : Byte) (s : State) : ((indexed base index s).st).cycles = s.cycles := by rfl
@[simp] theorem indexed_mem (base : Word) (index : Byte) (s : State) : ((indexed base index s).st).mem = s.mem := by rfl
@[simp] theorem indexed_draws (base : Word) (index : Byte) (s : State) : ((indexed base index s).st).draws = s.draws := by rfl
@[simp] theorem indexed_bus (base : Word) (index : Byte) (s : State) : ((indexed base index s).st).bus = s.bus := by rfl

@[simp] theorem readZeroPagePointer_a (q : Byte) (s : State) : ((readZeroPagePointer q s).2).a = s.a := by simp [readZeroPagePointer]
@[simp] theorem readZeroPagePointer_x (q : Byte) (s : State) : ((readZeroPagePointer q s).2).x = s.x := by simp [readZeroPagePointer]
@[simp] theorem readZeroPagePointer_y (q : Byte) (s : State) : ((readZeroPagePointer q s).2).y = s.y := by simp [readZeroPagePointer]
@[simp] theorem readZeroPagePointer_sp (q : Byte) (s : State) : ((readZeroPagePointer q s).2).sp = s.sp := by simp [readZeroPagePointer]
@[simp] theorem readZeroPagePointer_pc (q : Byte) (s : State) : ((readZeroPagePointer q s).2).pc = s.pc := by simp [readZeroPagePointer]
@[simp] theorem readZeroPagePointer_p (q : Byte) (s : State) : ((readZeroPagePointer q s).2).p = s.p := by simp [readZeroPagePointer]
@[simp] theorem readZeroPagePointer_nmiPending (q : Byte) (s : State) : ((readZeroPagePointer q s).2).nmiPending = s.nmiPending := by simp [readZeroPagePointer]
@[simp] theorem readZeroPagePointer_irqPending (q : Byte) (s : State) : ((readZeroPagePointer q s).2).irqPending = s.irqPending := by simp [readZeroPagePointer]
@[simp] theorem readZeroPagePointer_cycles (q : Byte) (s : State) : ((readZeroPagePointer q s).2).cycles = s.cycles := by simp [readZeroPagePointer]
@[simp] theorem readZeroPagePointer_mem (q : Byte) (s : State) : ((readZeroPagePointer q s).2).mem = s.mem := by simp [readZeroPagePointer]

@[simp] theorem resolveAddr_a (m : AddrMode) (s : State) : ((resolveAddr m s).st).a = s.a := by cases m <;> simp [resolveAddr]
@[simp] theorem resolveAddr_x (m : AddrMode) (s : State) : ((resolveAddr m s).st).x = s.x := by cases m <;> simp [resolveAddr]
@[simp] theorem resolveAddr_y (m : AddrMode) (s : State) : ((resolveAddr m s).st).y = s.y := by cases m <;> simp [resolveAddr]
@[simp] theorem resolveAddr_sp (m : AddrMode) (s : State) : ((resolveAddr m s).st).sp = s.sp := by cases m <;> simp [resolveAddr]
@[simp] theorem resolveAddr_pc (m : AddrMode) (s : State) : ((resolveAddr m s).st).pc = s.pc := by cases m <;> simp [resolveAddr]
@[simp] theorem resolveAddr_p (m : AddrMode) (s : State) : ((resolveAddr m s).st).p = s.p := by cases m <;> simp [resolveAddr]
@[simp] theorem resolveAddr_nmiPending (m : AddrMode) (s : State) : ((resolveAddr m s).st).nmiPending = s.nmiPending := by cases m <;> simp [resolveAddr]
@[simp] theorem resolveAddr_irqPending (m : AddrMode) (s : State) : ((resolveAddr m s).st).irqPending = s.irqPending := by cases m <;> simp [resolveAddr]
@[simp] theorem resolveAddr_cycles (m : AddrMode) (s : State) : ((resolveAddr m s).st).cycles = s.cycles := by cases m <;> simp [resolveAddr]
@[simp] theorem resolveAddr_mem (m : AddrMode) (s : State) : ((resolveAddr m s).st).mem = s.mem := by cases m <;> simp [resolveAddr]

@[simp] theorem loadSource_a (src : Source) (s : State) : ((loadSource src s).st).a = s.a := by cases src <;> simp [loadSource]
@[simp] theorem loadSource_x (src : Source) (s : State) : ((loadSource src s).st).x = s.x := by cases src <;> simp [loadSource]
@[simp] theorem loadSource_y (src : Source) (s : State) : ((loadSource src s).st).y = s.y := by cases src <;> simp [loadSource]
@[simp] theorem loadSource_sp (src : Source) (s : State) : ((loadSource src s).st).sp = s.sp := by cases src <;> simp [loadSource]
@[simp] theorem loadSource_pc (src : Source) (s : State) : ((loadSource src s).st).pc = s.pc := by cases src <;> simp [loadSource]
@[simp] theorem loadSource_p (src : Source) (s : State) : ((loadSource src s).st).p = s.p := by cases src <;> simp [loadSource]
@[simp] theorem loadSource_nmiPending (src : Source) (s : State) : ((loadSource src s).st).nmiPending = s.nmiPending := by cases src <;> simp [loadSource]
@[simp] theorem loadSource_irqPending (src : Source) (s : State) : ((loadSource src s).st).irqPending = s.irqPending := by cases src <;> simp [loadSource]
@[simp] theorem loadSource_cycles (src : Source) (s : State) : ((loadSource src s).st).cycles = s.cycles := by cases src <;> simp [loadSource]
@[simp] theorem loadSource_mem (src : Source) (s : State) : ((loadSource src s).st).mem = s.mem := by cases src <;> simp [loadSource]

@[simp] theorem modifyPlace_x (f : Modify) (pl : Place) (s : State) : (modifyPlace f pl s).x = s.x := by cases pl <;> simp [modifyPlace]
@[simp] theorem modifyPlace_y (f : Modify) (pl : Place) (s : State) : (modifyPlace f pl s).y = s.y := by cases pl <;> simp [modifyPlace]
@[simp] theorem modifyPlace_sp (f : Modify) (pl : Place) (s : State) : (modifyPlace f pl s).sp = s.sp := by cases pl <;> simp [modifyPlace]
@[simp] theorem modifyPlace_pc (f : Modify) (pl : Place) (s : State) : (modifyPlace f pl s).pc = s.pc := by cases pl <;> simp [modifyPlace]
@[simp] theorem modifyPlace_nmiPending (f : Modify) (pl : Place) (s : State) : (modifyPlace f pl s).nmiPending = s.nmiPending := by cases pl <;> simp [modifyPlace]
@[simp] theorem modifyPlace_irqPending (f : Modify) (pl : Place) (s : State) : (modifyPlace f pl s).irqPending = s.irqPending := by cases pl <;> simp [modifyPlace]
@[simp] theorem modifyPlace_cycles (f : Modify) (pl : Place) (s : State) : (modifyPlace f pl s).cycles = s.cycles := by cases pl <;> simp [modifyPlace]

theorem modifyPlace_wf {s : State} (h : s.mem.wf) (f : Modify) (pl : Place) : (modifyPlace f pl s).mem.wf := by
  cases pl with
  | acc => simpa [modifyPlace] using h
  | mem m => simpa [modifyPlace] using memWrite_wf (by simpa using h) _ _

/-- The flags that SetZN leaves (10_state.md R16). -/
@[simp] theorem Status.setZN_b (p : Status) (v : Byte) : (p.setZN v).b = p.b := rfl
@[simp] theorem Status.setZN_v (p : Status) (v : Byte) : (p.setZN v).v = p.v := rfl
@[simp] theorem Status.setZN_d (p : Status) (v : Byte) : (p.setZN v).d = p.d := rfl
@[simp] theorem Status.setZN_i (p : Status) (v : Byte) : (p.setZN v).i = p.i := rfl
@[simp] theorem Status.setZN_c (p : Status) (v : Byte) : (p.setZN v).c = p.c := rfl
@[simp] theorem Status.setZN_n (p : Status) (v : Byte) : (p.setZN v).n = v.getLsbD 7 := rfl
@[simp] theorem Status.setZN_z (p : Status) (v : Byte) : (p.setZN v).z = (v == 0x00#8) := rfl
@[simp] theorem Status.unpack_b (p : Status) (v : Byte) : (p.unpack v).b = p.b := rfl

/-- Unpacking a packed status gives it back but for the stored B (10_state.md R18, R19). -/
theorem Status.unpack_pack (p q : Status) (b : Bool) : q.unpack (p.pack b) = { p with b := q.b } := by
  rcases p with ⟨n, v, pb, d, i, z, c⟩
  rcases q with ⟨qn, qv, qb, qd, qi, qz, qc⟩
  revert n v pb d i z c b
  simp only [Status.unpack, Status.pack, Status.mk.injEq]
  decide +revert

end Sys2Proof.Machine
end

