-- ==== Sys2Proof/Laws/PerInstr.lean ====
section
/-! SUPPORT. Statements about every instruction as syntax, one lemma per constructor. -/

namespace Sys2Proof.Laws

/-- The map of 30_encoding.md R74 (the decoder's) gives the opcode of R75 (the encoder's) the length that R71
gives its mode. -/
def OpcodeLength.Statement (i : Instr) : Prop := i.wf = true → lengthOf i.opcode = i.length

theorem OpcodeLength.adcImm (v : Byte) : OpcodeLength.Statement (.adcImm v) := fun _ => (by decide : lengthOf 0x69 = 2)
theorem OpcodeLength.adcZp (z : Byte) : OpcodeLength.Statement (.adcZp z) := fun _ => (by decide : lengthOf 0x65 = 2)
theorem OpcodeLength.adcZpx (z : Byte) : OpcodeLength.Statement (.adcZpx z) := fun _ => (by decide : lengthOf 0x75 = 2)
theorem OpcodeLength.adcAbs (addr : Word) : OpcodeLength.Statement (.adcAbs addr) := fun _ => (by decide : lengthOf 0x6D = 3)
theorem OpcodeLength.adcAbx (base : Word) : OpcodeLength.Statement (.adcAbx base) := fun _ => (by decide : lengthOf 0x7D = 3)
theorem OpcodeLength.adcAby (base : Word) : OpcodeLength.Statement (.adcAby base) := fun _ => (by decide : lengthOf 0x79 = 3)
theorem OpcodeLength.adcIzx (z : Byte) : OpcodeLength.Statement (.adcIzx z) := fun _ => (by decide : lengthOf 0x61 = 2)
theorem OpcodeLength.adcIzy (z : Byte) : OpcodeLength.Statement (.adcIzy z) := fun _ => (by decide : lengthOf 0x71 = 2)
theorem OpcodeLength.sbcImm (v : Byte) : OpcodeLength.Statement (.sbcImm v) := fun _ => (by decide : lengthOf 0xE9 = 2)
theorem OpcodeLength.sbcZp (z : Byte) : OpcodeLength.Statement (.sbcZp z) := fun _ => (by decide : lengthOf 0xE5 = 2)
theorem OpcodeLength.sbcZpx (z : Byte) : OpcodeLength.Statement (.sbcZpx z) := fun _ => (by decide : lengthOf 0xF5 = 2)
theorem OpcodeLength.sbcAbs (addr : Word) : OpcodeLength.Statement (.sbcAbs addr) := fun _ => (by decide : lengthOf 0xED = 3)
theorem OpcodeLength.sbcAbx (base : Word) : OpcodeLength.Statement (.sbcAbx base) := fun _ => (by decide : lengthOf 0xFD = 3)
theorem OpcodeLength.sbcAby (base : Word) : OpcodeLength.Statement (.sbcAby base) := fun _ => (by decide : lengthOf 0xF9 = 3)
theorem OpcodeLength.sbcIzx (z : Byte) : OpcodeLength.Statement (.sbcIzx z) := fun _ => (by decide : lengthOf 0xE1 = 2)
theorem OpcodeLength.sbcIzy (z : Byte) : OpcodeLength.Statement (.sbcIzy z) := fun _ => (by decide : lengthOf 0xF1 = 2)
theorem OpcodeLength.cmpImm (v : Byte) : OpcodeLength.Statement (.cmpImm v) := fun _ => (by decide : lengthOf 0xC9 = 2)
theorem OpcodeLength.cmpZp (z : Byte) : OpcodeLength.Statement (.cmpZp z) := fun _ => (by decide : lengthOf 0xC5 = 2)
theorem OpcodeLength.cmpZpx (z : Byte) : OpcodeLength.Statement (.cmpZpx z) := fun _ => (by decide : lengthOf 0xD5 = 2)
theorem OpcodeLength.cmpAbs (addr : Word) : OpcodeLength.Statement (.cmpAbs addr) := fun _ => (by decide : lengthOf 0xCD = 3)
theorem OpcodeLength.cmpAbx (base : Word) : OpcodeLength.Statement (.cmpAbx base) := fun _ => (by decide : lengthOf 0xDD = 3)
theorem OpcodeLength.cmpAby (base : Word) : OpcodeLength.Statement (.cmpAby base) := fun _ => (by decide : lengthOf 0xD9 = 3)
theorem OpcodeLength.cmpIzx (z : Byte) : OpcodeLength.Statement (.cmpIzx z) := fun _ => (by decide : lengthOf 0xC1 = 2)
theorem OpcodeLength.cmpIzy (z : Byte) : OpcodeLength.Statement (.cmpIzy z) := fun _ => (by decide : lengthOf 0xD1 = 2)
theorem OpcodeLength.cpxImm (v : Byte) : OpcodeLength.Statement (.cpxImm v) := fun _ => (by decide : lengthOf 0xE0 = 2)
theorem OpcodeLength.cpxZp (z : Byte) : OpcodeLength.Statement (.cpxZp z) := fun _ => (by decide : lengthOf 0xE4 = 2)
theorem OpcodeLength.cpxAbs (addr : Word) : OpcodeLength.Statement (.cpxAbs addr) := fun _ => (by decide : lengthOf 0xEC = 3)
theorem OpcodeLength.cpyImm (v : Byte) : OpcodeLength.Statement (.cpyImm v) := fun _ => (by decide : lengthOf 0xC0 = 2)
theorem OpcodeLength.cpyZp (z : Byte) : OpcodeLength.Statement (.cpyZp z) := fun _ => (by decide : lengthOf 0xC4 = 2)
theorem OpcodeLength.cpyAbs (addr : Word) : OpcodeLength.Statement (.cpyAbs addr) := fun _ => (by decide : lengthOf 0xCC = 3)
theorem OpcodeLength.incZp (z : Byte) : OpcodeLength.Statement (.incZp z) := fun _ => (by decide : lengthOf 0xE6 = 2)
theorem OpcodeLength.incZpx (z : Byte) : OpcodeLength.Statement (.incZpx z) := fun _ => (by decide : lengthOf 0xF6 = 2)
theorem OpcodeLength.incAbs (addr : Word) : OpcodeLength.Statement (.incAbs addr) := fun _ => (by decide : lengthOf 0xEE = 3)
theorem OpcodeLength.incAbx (base : Word) : OpcodeLength.Statement (.incAbx base) := fun _ => (by decide : lengthOf 0xFE = 3)
theorem OpcodeLength.inx : OpcodeLength.Statement .inx := fun _ => (by decide : lengthOf 0xE8 = 1)
theorem OpcodeLength.iny : OpcodeLength.Statement .iny := fun _ => (by decide : lengthOf 0xC8 = 1)
theorem OpcodeLength.decZp (z : Byte) : OpcodeLength.Statement (.decZp z) := fun _ => (by decide : lengthOf 0xC6 = 2)
theorem OpcodeLength.decZpx (z : Byte) : OpcodeLength.Statement (.decZpx z) := fun _ => (by decide : lengthOf 0xD6 = 2)
theorem OpcodeLength.decAbs (addr : Word) : OpcodeLength.Statement (.decAbs addr) := fun _ => (by decide : lengthOf 0xCE = 3)
theorem OpcodeLength.decAbx (base : Word) : OpcodeLength.Statement (.decAbx base) := fun _ => (by decide : lengthOf 0xDE = 3)
theorem OpcodeLength.dex : OpcodeLength.Statement .dex := fun _ => (by decide : lengthOf 0xCA = 1)
theorem OpcodeLength.dey : OpcodeLength.Statement .dey := fun _ => (by decide : lengthOf 0x88 = 1)
theorem OpcodeLength.andImm (v : Byte) : OpcodeLength.Statement (.andImm v) := fun _ => (by decide : lengthOf 0x29 = 2)
theorem OpcodeLength.andZp (z : Byte) : OpcodeLength.Statement (.andZp z) := fun _ => (by decide : lengthOf 0x25 = 2)
theorem OpcodeLength.andZpx (z : Byte) : OpcodeLength.Statement (.andZpx z) := fun _ => (by decide : lengthOf 0x35 = 2)
theorem OpcodeLength.andAbs (addr : Word) : OpcodeLength.Statement (.andAbs addr) := fun _ => (by decide : lengthOf 0x2D = 3)
theorem OpcodeLength.andAbx (base : Word) : OpcodeLength.Statement (.andAbx base) := fun _ => (by decide : lengthOf 0x3D = 3)
theorem OpcodeLength.andAby (base : Word) : OpcodeLength.Statement (.andAby base) := fun _ => (by decide : lengthOf 0x39 = 3)
theorem OpcodeLength.andIzx (z : Byte) : OpcodeLength.Statement (.andIzx z) := fun _ => (by decide : lengthOf 0x21 = 2)
theorem OpcodeLength.andIzy (z : Byte) : OpcodeLength.Statement (.andIzy z) := fun _ => (by decide : lengthOf 0x31 = 2)
theorem OpcodeLength.oraImm (v : Byte) : OpcodeLength.Statement (.oraImm v) := fun _ => (by decide : lengthOf 0x09 = 2)
theorem OpcodeLength.oraZp (z : Byte) : OpcodeLength.Statement (.oraZp z) := fun _ => (by decide : lengthOf 0x05 = 2)
theorem OpcodeLength.oraZpx (z : Byte) : OpcodeLength.Statement (.oraZpx z) := fun _ => (by decide : lengthOf 0x15 = 2)
theorem OpcodeLength.oraAbs (addr : Word) : OpcodeLength.Statement (.oraAbs addr) := fun _ => (by decide : lengthOf 0x0D = 3)
theorem OpcodeLength.oraAbx (base : Word) : OpcodeLength.Statement (.oraAbx base) := fun _ => (by decide : lengthOf 0x1D = 3)
theorem OpcodeLength.oraAby (base : Word) : OpcodeLength.Statement (.oraAby base) := fun _ => (by decide : lengthOf 0x19 = 3)
theorem OpcodeLength.oraIzx (z : Byte) : OpcodeLength.Statement (.oraIzx z) := fun _ => (by decide : lengthOf 0x01 = 2)
theorem OpcodeLength.oraIzy (z : Byte) : OpcodeLength.Statement (.oraIzy z) := fun _ => (by decide : lengthOf 0x11 = 2)
theorem OpcodeLength.eorImm (v : Byte) : OpcodeLength.Statement (.eorImm v) := fun _ => (by decide : lengthOf 0x49 = 2)
theorem OpcodeLength.eorZp (z : Byte) : OpcodeLength.Statement (.eorZp z) := fun _ => (by decide : lengthOf 0x45 = 2)
theorem OpcodeLength.eorZpx (z : Byte) : OpcodeLength.Statement (.eorZpx z) := fun _ => (by decide : lengthOf 0x55 = 2)
theorem OpcodeLength.eorAbs (addr : Word) : OpcodeLength.Statement (.eorAbs addr) := fun _ => (by decide : lengthOf 0x4D = 3)
theorem OpcodeLength.eorAbx (base : Word) : OpcodeLength.Statement (.eorAbx base) := fun _ => (by decide : lengthOf 0x5D = 3)
theorem OpcodeLength.eorAby (base : Word) : OpcodeLength.Statement (.eorAby base) := fun _ => (by decide : lengthOf 0x59 = 3)
theorem OpcodeLength.eorIzx (z : Byte) : OpcodeLength.Statement (.eorIzx z) := fun _ => (by decide : lengthOf 0x41 = 2)
theorem OpcodeLength.eorIzy (z : Byte) : OpcodeLength.Statement (.eorIzy z) := fun _ => (by decide : lengthOf 0x51 = 2)
theorem OpcodeLength.bitZp (z : Byte) : OpcodeLength.Statement (.bitZp z) := fun _ => (by decide : lengthOf 0x24 = 2)
theorem OpcodeLength.bitAbs (addr : Word) : OpcodeLength.Statement (.bitAbs addr) := fun _ => (by decide : lengthOf 0x2C = 3)
theorem OpcodeLength.aslAcc : OpcodeLength.Statement .aslAcc := fun _ => (by decide : lengthOf 0x0A = 1)
theorem OpcodeLength.aslZp (z : Byte) : OpcodeLength.Statement (.aslZp z) := fun _ => (by decide : lengthOf 0x06 = 2)
theorem OpcodeLength.aslZpx (z : Byte) : OpcodeLength.Statement (.aslZpx z) := fun _ => (by decide : lengthOf 0x16 = 2)
theorem OpcodeLength.aslAbs (addr : Word) : OpcodeLength.Statement (.aslAbs addr) := fun _ => (by decide : lengthOf 0x0E = 3)
theorem OpcodeLength.aslAbx (base : Word) : OpcodeLength.Statement (.aslAbx base) := fun _ => (by decide : lengthOf 0x1E = 3)
theorem OpcodeLength.lsrAcc : OpcodeLength.Statement .lsrAcc := fun _ => (by decide : lengthOf 0x4A = 1)
theorem OpcodeLength.lsrZp (z : Byte) : OpcodeLength.Statement (.lsrZp z) := fun _ => (by decide : lengthOf 0x46 = 2)
theorem OpcodeLength.lsrZpx (z : Byte) : OpcodeLength.Statement (.lsrZpx z) := fun _ => (by decide : lengthOf 0x56 = 2)
theorem OpcodeLength.lsrAbs (addr : Word) : OpcodeLength.Statement (.lsrAbs addr) := fun _ => (by decide : lengthOf 0x4E = 3)
theorem OpcodeLength.lsrAbx (base : Word) : OpcodeLength.Statement (.lsrAbx base) := fun _ => (by decide : lengthOf 0x5E = 3)
theorem OpcodeLength.rolAcc : OpcodeLength.Statement .rolAcc := fun _ => (by decide : lengthOf 0x2A = 1)
theorem OpcodeLength.rolZp (z : Byte) : OpcodeLength.Statement (.rolZp z) := fun _ => (by decide : lengthOf 0x26 = 2)
theorem OpcodeLength.rolZpx (z : Byte) : OpcodeLength.Statement (.rolZpx z) := fun _ => (by decide : lengthOf 0x36 = 2)
theorem OpcodeLength.rolAbs (addr : Word) : OpcodeLength.Statement (.rolAbs addr) := fun _ => (by decide : lengthOf 0x2E = 3)
theorem OpcodeLength.rolAbx (base : Word) : OpcodeLength.Statement (.rolAbx base) := fun _ => (by decide : lengthOf 0x3E = 3)
theorem OpcodeLength.rorAcc : OpcodeLength.Statement .rorAcc := fun _ => (by decide : lengthOf 0x6A = 1)
theorem OpcodeLength.rorZp (z : Byte) : OpcodeLength.Statement (.rorZp z) := fun _ => (by decide : lengthOf 0x66 = 2)
theorem OpcodeLength.rorZpx (z : Byte) : OpcodeLength.Statement (.rorZpx z) := fun _ => (by decide : lengthOf 0x76 = 2)
theorem OpcodeLength.rorAbs (addr : Word) : OpcodeLength.Statement (.rorAbs addr) := fun _ => (by decide : lengthOf 0x6E = 3)
theorem OpcodeLength.rorAbx (base : Word) : OpcodeLength.Statement (.rorAbx base) := fun _ => (by decide : lengthOf 0x7E = 3)
theorem OpcodeLength.bcc (off : Byte) : OpcodeLength.Statement (.bcc off) := fun _ => (by decide : lengthOf 0x90 = 2)
theorem OpcodeLength.bcs (off : Byte) : OpcodeLength.Statement (.bcs off) := fun _ => (by decide : lengthOf 0xB0 = 2)
theorem OpcodeLength.beq (off : Byte) : OpcodeLength.Statement (.beq off) := fun _ => (by decide : lengthOf 0xF0 = 2)
theorem OpcodeLength.bne (off : Byte) : OpcodeLength.Statement (.bne off) := fun _ => (by decide : lengthOf 0xD0 = 2)
theorem OpcodeLength.bmi (off : Byte) : OpcodeLength.Statement (.bmi off) := fun _ => (by decide : lengthOf 0x30 = 2)
theorem OpcodeLength.bpl (off : Byte) : OpcodeLength.Statement (.bpl off) := fun _ => (by decide : lengthOf 0x10 = 2)
theorem OpcodeLength.bvc (off : Byte) : OpcodeLength.Statement (.bvc off) := fun _ => (by decide : lengthOf 0x50 = 2)
theorem OpcodeLength.bvs (off : Byte) : OpcodeLength.Statement (.bvs off) := fun _ => (by decide : lengthOf 0x70 = 2)
theorem OpcodeLength.jmpAbs (addr : Word) : OpcodeLength.Statement (.jmpAbs addr) := fun _ => (by decide : lengthOf 0x4C = 3)
theorem OpcodeLength.jmpInd (ptr : Word) : OpcodeLength.Statement (.jmpInd ptr) := fun _ => (by decide : lengthOf 0x6C = 3)
theorem OpcodeLength.jsr (addr : Word) : OpcodeLength.Statement (.jsr addr) := fun _ => (by decide : lengthOf 0x20 = 3)
theorem OpcodeLength.rts : OpcodeLength.Statement .rts := fun _ => (by decide : lengthOf 0x60 = 1)
theorem OpcodeLength.ldaImm (v : Byte) : OpcodeLength.Statement (.ldaImm v) := fun _ => (by decide : lengthOf 0xA9 = 2)
theorem OpcodeLength.ldaZp (z : Byte) : OpcodeLength.Statement (.ldaZp z) := fun _ => (by decide : lengthOf 0xA5 = 2)
theorem OpcodeLength.ldaZpx (z : Byte) : OpcodeLength.Statement (.ldaZpx z) := fun _ => (by decide : lengthOf 0xB5 = 2)
theorem OpcodeLength.ldaAbs (addr : Word) : OpcodeLength.Statement (.ldaAbs addr) := fun _ => (by decide : lengthOf 0xAD = 3)
theorem OpcodeLength.ldaAbx (base : Word) : OpcodeLength.Statement (.ldaAbx base) := fun _ => (by decide : lengthOf 0xBD = 3)
theorem OpcodeLength.ldaAby (base : Word) : OpcodeLength.Statement (.ldaAby base) := fun _ => (by decide : lengthOf 0xB9 = 3)
theorem OpcodeLength.ldaIzx (z : Byte) : OpcodeLength.Statement (.ldaIzx z) := fun _ => (by decide : lengthOf 0xA1 = 2)
theorem OpcodeLength.ldaIzy (z : Byte) : OpcodeLength.Statement (.ldaIzy z) := fun _ => (by decide : lengthOf 0xB1 = 2)
theorem OpcodeLength.ldxImm (v : Byte) : OpcodeLength.Statement (.ldxImm v) := fun _ => (by decide : lengthOf 0xA2 = 2)
theorem OpcodeLength.ldxZp (z : Byte) : OpcodeLength.Statement (.ldxZp z) := fun _ => (by decide : lengthOf 0xA6 = 2)
theorem OpcodeLength.ldxZpy (z : Byte) : OpcodeLength.Statement (.ldxZpy z) := fun _ => (by decide : lengthOf 0xB6 = 2)
theorem OpcodeLength.ldxAbs (addr : Word) : OpcodeLength.Statement (.ldxAbs addr) := fun _ => (by decide : lengthOf 0xAE = 3)
theorem OpcodeLength.ldxAby (base : Word) : OpcodeLength.Statement (.ldxAby base) := fun _ => (by decide : lengthOf 0xBE = 3)
theorem OpcodeLength.ldyImm (v : Byte) : OpcodeLength.Statement (.ldyImm v) := fun _ => (by decide : lengthOf 0xA0 = 2)
theorem OpcodeLength.ldyZp (z : Byte) : OpcodeLength.Statement (.ldyZp z) := fun _ => (by decide : lengthOf 0xA4 = 2)
theorem OpcodeLength.ldyZpx (z : Byte) : OpcodeLength.Statement (.ldyZpx z) := fun _ => (by decide : lengthOf 0xB4 = 2)
theorem OpcodeLength.ldyAbs (addr : Word) : OpcodeLength.Statement (.ldyAbs addr) := fun _ => (by decide : lengthOf 0xAC = 3)
theorem OpcodeLength.ldyAbx (base : Word) : OpcodeLength.Statement (.ldyAbx base) := fun _ => (by decide : lengthOf 0xBC = 3)
theorem OpcodeLength.staZp (z : Byte) : OpcodeLength.Statement (.staZp z) := fun _ => (by decide : lengthOf 0x85 = 2)
theorem OpcodeLength.staZpx (z : Byte) : OpcodeLength.Statement (.staZpx z) := fun _ => (by decide : lengthOf 0x95 = 2)
theorem OpcodeLength.staAbs (addr : Word) : OpcodeLength.Statement (.staAbs addr) := fun _ => (by decide : lengthOf 0x8D = 3)
theorem OpcodeLength.staAbx (base : Word) : OpcodeLength.Statement (.staAbx base) := fun _ => (by decide : lengthOf 0x9D = 3)
theorem OpcodeLength.staAby (base : Word) : OpcodeLength.Statement (.staAby base) := fun _ => (by decide : lengthOf 0x99 = 3)
theorem OpcodeLength.staIzx (z : Byte) : OpcodeLength.Statement (.staIzx z) := fun _ => (by decide : lengthOf 0x81 = 2)
theorem OpcodeLength.staIzy (z : Byte) : OpcodeLength.Statement (.staIzy z) := fun _ => (by decide : lengthOf 0x91 = 2)
theorem OpcodeLength.stxZp (z : Byte) : OpcodeLength.Statement (.stxZp z) := fun _ => (by decide : lengthOf 0x86 = 2)
theorem OpcodeLength.stxZpy (z : Byte) : OpcodeLength.Statement (.stxZpy z) := fun _ => (by decide : lengthOf 0x96 = 2)
theorem OpcodeLength.stxAbs (addr : Word) : OpcodeLength.Statement (.stxAbs addr) := fun _ => (by decide : lengthOf 0x8E = 3)
theorem OpcodeLength.styZp (z : Byte) : OpcodeLength.Statement (.styZp z) := fun _ => (by decide : lengthOf 0x84 = 2)
theorem OpcodeLength.styZpx (z : Byte) : OpcodeLength.Statement (.styZpx z) := fun _ => (by decide : lengthOf 0x94 = 2)
theorem OpcodeLength.styAbs (addr : Word) : OpcodeLength.Statement (.styAbs addr) := fun _ => (by decide : lengthOf 0x8C = 3)
theorem OpcodeLength.tax : OpcodeLength.Statement .tax := fun _ => (by decide : lengthOf 0xAA = 1)
theorem OpcodeLength.tay : OpcodeLength.Statement .tay := fun _ => (by decide : lengthOf 0xA8 = 1)
theorem OpcodeLength.txa : OpcodeLength.Statement .txa := fun _ => (by decide : lengthOf 0x8A = 1)
theorem OpcodeLength.tya : OpcodeLength.Statement .tya := fun _ => (by decide : lengthOf 0x98 = 1)
theorem OpcodeLength.tsx : OpcodeLength.Statement .tsx := fun _ => (by decide : lengthOf 0xBA = 1)
theorem OpcodeLength.txs : OpcodeLength.Statement .txs := fun _ => (by decide : lengthOf 0x9A = 1)
theorem OpcodeLength.pha : OpcodeLength.Statement .pha := fun _ => (by decide : lengthOf 0x48 = 1)
theorem OpcodeLength.php : OpcodeLength.Statement .php := fun _ => (by decide : lengthOf 0x08 = 1)
theorem OpcodeLength.pla : OpcodeLength.Statement .pla := fun _ => (by decide : lengthOf 0x68 = 1)
theorem OpcodeLength.plp : OpcodeLength.Statement .plp := fun _ => (by decide : lengthOf 0x28 = 1)
theorem OpcodeLength.brk : OpcodeLength.Statement .brk := fun _ => (by decide : lengthOf 0x00 = 1)
theorem OpcodeLength.rti : OpcodeLength.Statement .rti := fun _ => (by decide : lengthOf 0x40 = 1)
theorem OpcodeLength.nop : OpcodeLength.Statement .nop := fun _ => (by decide : lengthOf 0xEA = 1)
theorem OpcodeLength.clc : OpcodeLength.Statement .clc := fun _ => (by decide : lengthOf 0x18 = 1)
theorem OpcodeLength.sec : OpcodeLength.Statement .sec := fun _ => (by decide : lengthOf 0x38 = 1)
theorem OpcodeLength.cli : OpcodeLength.Statement .cli := fun _ => (by decide : lengthOf 0x58 = 1)
theorem OpcodeLength.sei : OpcodeLength.Statement .sei := fun _ => (by decide : lengthOf 0x78 = 1)
theorem OpcodeLength.cld : OpcodeLength.Statement .cld := fun _ => (by decide : lengthOf 0xD8 = 1)
theorem OpcodeLength.sed : OpcodeLength.Statement .sed := fun _ => (by decide : lengthOf 0xF8 = 1)
theorem OpcodeLength.clv : OpcodeLength.Statement .clv := fun _ => (by decide : lengthOf 0xB8 = 1)

/-! The cell of each opcode of 30_encoding.md R75 in the map of R74. -/

@[simp] theorem lookup_adcImm : lookup 0x69#8 = .two .adcImm := by rfl
@[simp] theorem lookup_adcZp : lookup 0x65#8 = .two .adcZp := by rfl
@[simp] theorem lookup_adcZpx : lookup 0x75#8 = .two .adcZpx := by rfl
@[simp] theorem lookup_adcAbs : lookup 0x6D#8 = .three .adcAbs := by rfl
@[simp] theorem lookup_adcAbx : lookup 0x7D#8 = .three .adcAbx := by rfl
@[simp] theorem lookup_adcAby : lookup 0x79#8 = .three .adcAby := by rfl
@[simp] theorem lookup_adcIzx : lookup 0x61#8 = .two .adcIzx := by rfl
@[simp] theorem lookup_adcIzy : lookup 0x71#8 = .two .adcIzy := by rfl
@[simp] theorem lookup_sbcImm : lookup 0xE9#8 = .two .sbcImm := by rfl
@[simp] theorem lookup_sbcZp : lookup 0xE5#8 = .two .sbcZp := by rfl
@[simp] theorem lookup_sbcZpx : lookup 0xF5#8 = .two .sbcZpx := by rfl
@[simp] theorem lookup_sbcAbs : lookup 0xED#8 = .three .sbcAbs := by rfl
@[simp] theorem lookup_sbcAbx : lookup 0xFD#8 = .three .sbcAbx := by rfl
@[simp] theorem lookup_sbcAby : lookup 0xF9#8 = .three .sbcAby := by rfl
@[simp] theorem lookup_sbcIzx : lookup 0xE1#8 = .two .sbcIzx := by rfl
@[simp] theorem lookup_sbcIzy : lookup 0xF1#8 = .two .sbcIzy := by rfl
@[simp] theorem lookup_cmpImm : lookup 0xC9#8 = .two .cmpImm := by rfl
@[simp] theorem lookup_cmpZp : lookup 0xC5#8 = .two .cmpZp := by rfl
@[simp] theorem lookup_cmpZpx : lookup 0xD5#8 = .two .cmpZpx := by rfl
@[simp] theorem lookup_cmpAbs : lookup 0xCD#8 = .three .cmpAbs := by rfl
@[simp] theorem lookup_cmpAbx : lookup 0xDD#8 = .three .cmpAbx := by rfl
@[simp] theorem lookup_cmpAby : lookup 0xD9#8 = .three .cmpAby := by rfl
@[simp] theorem lookup_cmpIzx : lookup 0xC1#8 = .two .cmpIzx := by rfl
@[simp] theorem lookup_cmpIzy : lookup 0xD1#8 = .two .cmpIzy := by rfl
@[simp] theorem lookup_cpxImm : lookup 0xE0#8 = .two .cpxImm := by rfl
@[simp] theorem lookup_cpxZp : lookup 0xE4#8 = .two .cpxZp := by rfl
@[simp] theorem lookup_cpxAbs : lookup 0xEC#8 = .three .cpxAbs := by rfl
@[simp] theorem lookup_cpyImm : lookup 0xC0#8 = .two .cpyImm := by rfl
@[simp] theorem lookup_cpyZp : lookup 0xC4#8 = .two .cpyZp := by rfl
@[simp] theorem lookup_cpyAbs : lookup 0xCC#8 = .three .cpyAbs := by rfl
@[simp] theorem lookup_incZp : lookup 0xE6#8 = .two .incZp := by rfl
@[simp] theorem lookup_incZpx : lookup 0xF6#8 = .two .incZpx := by rfl
@[simp] theorem lookup_incAbs : lookup 0xEE#8 = .three .incAbs := by rfl
@[simp] theorem lookup_incAbx : lookup 0xFE#8 = .three .incAbx := by rfl
@[simp] theorem lookup_inx : lookup 0xE8#8 = .one .inx := by rfl
@[simp] theorem lookup_iny : lookup 0xC8#8 = .one .iny := by rfl
@[simp] theorem lookup_decZp : lookup 0xC6#8 = .two .decZp := by rfl
@[simp] theorem lookup_decZpx : lookup 0xD6#8 = .two .decZpx := by rfl
@[simp] theorem lookup_decAbs : lookup 0xCE#8 = .three .decAbs := by rfl
@[simp] theorem lookup_decAbx : lookup 0xDE#8 = .three .decAbx := by rfl
@[simp] theorem lookup_dex : lookup 0xCA#8 = .one .dex := by rfl
@[simp] theorem lookup_dey : lookup 0x88#8 = .one .dey := by rfl
@[simp] theorem lookup_andImm : lookup 0x29#8 = .two .andImm := by rfl
@[simp] theorem lookup_andZp : lookup 0x25#8 = .two .andZp := by rfl
@[simp] theorem lookup_andZpx : lookup 0x35#8 = .two .andZpx := by rfl
@[simp] theorem lookup_andAbs : lookup 0x2D#8 = .three .andAbs := by rfl
@[simp] theorem lookup_andAbx : lookup 0x3D#8 = .three .andAbx := by rfl
@[simp] theorem lookup_andAby : lookup 0x39#8 = .three .andAby := by rfl
@[simp] theorem lookup_andIzx : lookup 0x21#8 = .two .andIzx := by rfl
@[simp] theorem lookup_andIzy : lookup 0x31#8 = .two .andIzy := by rfl
@[simp] theorem lookup_oraImm : lookup 0x09#8 = .two .oraImm := by rfl
@[simp] theorem lookup_oraZp : lookup 0x05#8 = .two .oraZp := by rfl
@[simp] theorem lookup_oraZpx : lookup 0x15#8 = .two .oraZpx := by rfl
@[simp] theorem lookup_oraAbs : lookup 0x0D#8 = .three .oraAbs := by rfl
@[simp] theorem lookup_oraAbx : lookup 0x1D#8 = .three .oraAbx := by rfl
@[simp] theorem lookup_oraAby : lookup 0x19#8 = .three .oraAby := by rfl
@[simp] theorem lookup_oraIzx : lookup 0x01#8 = .two .oraIzx := by rfl
@[simp] theorem lookup_oraIzy : lookup 0x11#8 = .two .oraIzy := by rfl
@[simp] theorem lookup_eorImm : lookup 0x49#8 = .two .eorImm := by rfl
@[simp] theorem lookup_eorZp : lookup 0x45#8 = .two .eorZp := by rfl
@[simp] theorem lookup_eorZpx : lookup 0x55#8 = .two .eorZpx := by rfl
@[simp] theorem lookup_eorAbs : lookup 0x4D#8 = .three .eorAbs := by rfl
@[simp] theorem lookup_eorAbx : lookup 0x5D#8 = .three .eorAbx := by rfl
@[simp] theorem lookup_eorAby : lookup 0x59#8 = .three .eorAby := by rfl
@[simp] theorem lookup_eorIzx : lookup 0x41#8 = .two .eorIzx := by rfl
@[simp] theorem lookup_eorIzy : lookup 0x51#8 = .two .eorIzy := by rfl
@[simp] theorem lookup_bitZp : lookup 0x24#8 = .two .bitZp := by rfl
@[simp] theorem lookup_bitAbs : lookup 0x2C#8 = .three .bitAbs := by rfl
@[simp] theorem lookup_aslAcc : lookup 0x0A#8 = .one .aslAcc := by rfl
@[simp] theorem lookup_aslZp : lookup 0x06#8 = .two .aslZp := by rfl
@[simp] theorem lookup_aslZpx : lookup 0x16#8 = .two .aslZpx := by rfl
@[simp] theorem lookup_aslAbs : lookup 0x0E#8 = .three .aslAbs := by rfl
@[simp] theorem lookup_aslAbx : lookup 0x1E#8 = .three .aslAbx := by rfl
@[simp] theorem lookup_lsrAcc : lookup 0x4A#8 = .one .lsrAcc := by rfl
@[simp] theorem lookup_lsrZp : lookup 0x46#8 = .two .lsrZp := by rfl
@[simp] theorem lookup_lsrZpx : lookup 0x56#8 = .two .lsrZpx := by rfl
@[simp] theorem lookup_lsrAbs : lookup 0x4E#8 = .three .lsrAbs := by rfl
@[simp] theorem lookup_lsrAbx : lookup 0x5E#8 = .three .lsrAbx := by rfl
@[simp] theorem lookup_rolAcc : lookup 0x2A#8 = .one .rolAcc := by rfl
@[simp] theorem lookup_rolZp : lookup 0x26#8 = .two .rolZp := by rfl
@[simp] theorem lookup_rolZpx : lookup 0x36#8 = .two .rolZpx := by rfl
@[simp] theorem lookup_rolAbs : lookup 0x2E#8 = .three .rolAbs := by rfl
@[simp] theorem lookup_rolAbx : lookup 0x3E#8 = .three .rolAbx := by rfl
@[simp] theorem lookup_rorAcc : lookup 0x6A#8 = .one .rorAcc := by rfl
@[simp] theorem lookup_rorZp : lookup 0x66#8 = .two .rorZp := by rfl
@[simp] theorem lookup_rorZpx : lookup 0x76#8 = .two .rorZpx := by rfl
@[simp] theorem lookup_rorAbs : lookup 0x6E#8 = .three .rorAbs := by rfl
@[simp] theorem lookup_rorAbx : lookup 0x7E#8 = .three .rorAbx := by rfl
@[simp] theorem lookup_bcc : lookup 0x90#8 = .two .bcc := by rfl
@[simp] theorem lookup_bcs : lookup 0xB0#8 = .two .bcs := by rfl
@[simp] theorem lookup_beq : lookup 0xF0#8 = .two .beq := by rfl
@[simp] theorem lookup_bne : lookup 0xD0#8 = .two .bne := by rfl
@[simp] theorem lookup_bmi : lookup 0x30#8 = .two .bmi := by rfl
@[simp] theorem lookup_bpl : lookup 0x10#8 = .two .bpl := by rfl
@[simp] theorem lookup_bvc : lookup 0x50#8 = .two .bvc := by rfl
@[simp] theorem lookup_bvs : lookup 0x70#8 = .two .bvs := by rfl
@[simp] theorem lookup_jmpAbs : lookup 0x4C#8 = .three .jmpAbs := by rfl
@[simp] theorem lookup_jmpInd : lookup 0x6C#8 = .three .jmpInd := by rfl
@[simp] theorem lookup_jsr : lookup 0x20#8 = .three .jsr := by rfl
@[simp] theorem lookup_rts : lookup 0x60#8 = .one .rts := by rfl
@[simp] theorem lookup_ldaImm : lookup 0xA9#8 = .two .ldaImm := by rfl
@[simp] theorem lookup_ldaZp : lookup 0xA5#8 = .two .ldaZp := by rfl
@[simp] theorem lookup_ldaZpx : lookup 0xB5#8 = .two .ldaZpx := by rfl
@[simp] theorem lookup_ldaAbs : lookup 0xAD#8 = .three .ldaAbs := by rfl
@[simp] theorem lookup_ldaAbx : lookup 0xBD#8 = .three .ldaAbx := by rfl
@[simp] theorem lookup_ldaAby : lookup 0xB9#8 = .three .ldaAby := by rfl
@[simp] theorem lookup_ldaIzx : lookup 0xA1#8 = .two .ldaIzx := by rfl
@[simp] theorem lookup_ldaIzy : lookup 0xB1#8 = .two .ldaIzy := by rfl
@[simp] theorem lookup_ldxImm : lookup 0xA2#8 = .two .ldxImm := by rfl
@[simp] theorem lookup_ldxZp : lookup 0xA6#8 = .two .ldxZp := by rfl
@[simp] theorem lookup_ldxZpy : lookup 0xB6#8 = .two .ldxZpy := by rfl
@[simp] theorem lookup_ldxAbs : lookup 0xAE#8 = .three .ldxAbs := by rfl
@[simp] theorem lookup_ldxAby : lookup 0xBE#8 = .three .ldxAby := by rfl
@[simp] theorem lookup_ldyImm : lookup 0xA0#8 = .two .ldyImm := by rfl
@[simp] theorem lookup_ldyZp : lookup 0xA4#8 = .two .ldyZp := by rfl
@[simp] theorem lookup_ldyZpx : lookup 0xB4#8 = .two .ldyZpx := by rfl
@[simp] theorem lookup_ldyAbs : lookup 0xAC#8 = .three .ldyAbs := by rfl
@[simp] theorem lookup_ldyAbx : lookup 0xBC#8 = .three .ldyAbx := by rfl
@[simp] theorem lookup_staZp : lookup 0x85#8 = .two .staZp := by rfl
@[simp] theorem lookup_staZpx : lookup 0x95#8 = .two .staZpx := by rfl
@[simp] theorem lookup_staAbs : lookup 0x8D#8 = .three .staAbs := by rfl
@[simp] theorem lookup_staAbx : lookup 0x9D#8 = .three .staAbx := by rfl
@[simp] theorem lookup_staAby : lookup 0x99#8 = .three .staAby := by rfl
@[simp] theorem lookup_staIzx : lookup 0x81#8 = .two .staIzx := by rfl
@[simp] theorem lookup_staIzy : lookup 0x91#8 = .two .staIzy := by rfl
@[simp] theorem lookup_stxZp : lookup 0x86#8 = .two .stxZp := by rfl
@[simp] theorem lookup_stxZpy : lookup 0x96#8 = .two .stxZpy := by rfl
@[simp] theorem lookup_stxAbs : lookup 0x8E#8 = .three .stxAbs := by rfl
@[simp] theorem lookup_styZp : lookup 0x84#8 = .two .styZp := by rfl
@[simp] theorem lookup_styZpx : lookup 0x94#8 = .two .styZpx := by rfl
@[simp] theorem lookup_styAbs : lookup 0x8C#8 = .three .styAbs := by rfl
@[simp] theorem lookup_tax : lookup 0xAA#8 = .one .tax := by rfl
@[simp] theorem lookup_tay : lookup 0xA8#8 = .one .tay := by rfl
@[simp] theorem lookup_txa : lookup 0x8A#8 = .one .txa := by rfl
@[simp] theorem lookup_tya : lookup 0x98#8 = .one .tya := by rfl
@[simp] theorem lookup_tsx : lookup 0xBA#8 = .one .tsx := by rfl
@[simp] theorem lookup_txs : lookup 0x9A#8 = .one .txs := by rfl
@[simp] theorem lookup_pha : lookup 0x48#8 = .one .pha := by rfl
@[simp] theorem lookup_php : lookup 0x08#8 = .one .php := by rfl
@[simp] theorem lookup_pla : lookup 0x68#8 = .one .pla := by rfl
@[simp] theorem lookup_plp : lookup 0x28#8 = .one .plp := by rfl
@[simp] theorem lookup_brk : lookup 0x00#8 = .one .brk := by rfl
@[simp] theorem lookup_rti : lookup 0x40#8 = .one .rti := by rfl
@[simp] theorem lookup_nop : lookup 0xEA#8 = .one .nop := by rfl
@[simp] theorem lookup_clc : lookup 0x18#8 = .one .clc := by rfl
@[simp] theorem lookup_sec : lookup 0x38#8 = .one .sec := by rfl
@[simp] theorem lookup_cli : lookup 0x58#8 = .one .cli := by rfl
@[simp] theorem lookup_sei : lookup 0x78#8 = .one .sei := by rfl
@[simp] theorem lookup_cld : lookup 0xD8#8 = .one .cld := by rfl
@[simp] theorem lookup_sed : lookup 0xF8#8 = .one .sed := by rfl
@[simp] theorem lookup_clv : lookup 0xB8#8 = .one .clv := by rfl

/-- Every opcode byte of R77 is an unimplemented cell of the map of R74. -/
theorem lookup_unimplemented : ∀ op : Byte, unimplementedOpcodes.contains op = true → (lookup op).length = 1 := by
  decide

theorem OpcodeLength.ill (opcode : Byte) : OpcodeLength.Statement (.ill opcode) :=
  lookup_unimplemented opcode

end Sys2Proof.Laws
end

