-- ==== Sys2Proof/Laws/Step.lean ====
section
/-! SUPPORT. What a step can do, said once: words and their bytes, memory after a write, the fetch of an
instruction, the outcome of the branch shape, and the three cases of `step`. -/

namespace Sys2Proof

/-! ## Words and their bytes -/

theorem toNat_mkWord (hi lo : Byte) : (mkWord hi lo).toNat = hi.toNat * 256 + lo.toNat := by
  rw [mkWord, BitVec.toNat_append, ← Nat.shiftLeft_add_eq_or_of_lt lo.isLt, Nat.shiftLeft_eq]

theorem toNat_hiByte (w : Word) : (hiByte w).toNat = w.toNat / 256 := by
  have := w.isLt
  simp only [hiByte, BitVec.extractLsb'_toNat, Nat.shiftRight_eq_div_pow]
  omega

theorem toNat_loByte (w : Word) : (loByte w).toNat = w.toNat % 256 := by
  simp only [loByte, BitVec.extractLsb'_toNat, Nat.shiftRight_zero]

@[simp] theorem mkWord_hiByte_loByte (w : Word) : mkWord (hiByte w) (loByte w) = w := by
  apply BitVec.eq_of_toNat_eq
  rw [toNat_mkWord, toNat_hiByte, toNat_loByte]
  omega

@[simp] theorem hiByte_mkWord (hi lo : Byte) : hiByte (mkWord hi lo) = hi := by
  apply BitVec.eq_of_toNat_eq
  have := lo.isLt
  rw [toNat_hiByte, toNat_mkWord]
  omega

@[simp] theorem loByte_mkWord (hi lo : Byte) : loByte (mkWord hi lo) = lo := by
  apply BitVec.eq_of_toNat_eq
  have := lo.isLt
  rw [toNat_loByte, toNat_mkWord]
  omega

/-- A page crossing is a change of the number of the page (00_scope.md R9). -/
theorem pageCrossed_iff (base ea : Word) : pageCrossed base ea = true ↔ ea.toNat / 256 ≠ base.toNat / 256 := by
  rw [pageCrossed, bne_iff_ne, ne_eq, ← BitVec.toNat_inj, toNat_hiByte, toNat_hiByte]

namespace Machine

/-! ## States and memory -/

/-- Two states that agree in every field are equal. -/
theorem State.ext_fields {s t : State} (ha : s.a = t.a) (hx : s.x = t.x) (hy : s.y = t.y) (hsp : s.sp = t.sp)
    (hpc : s.pc = t.pc) (hp : s.p = t.p) (hnmi : s.nmiPending = t.nmiPending) (hirq : s.irqPending = t.irqPending)
    (hcycles : s.cycles = t.cycles) (hmem : s.mem = t.mem) (hdraws : s.draws = t.draws) (hbus : s.bus = t.bus) :
    s = t := by
  cases s
  cases t
  simp_all

/-- What a read yields, in terms of memory and the count of draws alone. -/
theorem memRead_val_mem (addr : Word) (s : State) :
    (memRead addr s).1
      = if (region addr).isStorage then s.mem.get (canon addr).toNat else Config.draw s.draws := by
  rw [memRead_val]
  rfl

/-- Memory after a write by the core. -/
theorem memWrite_mem (addr : Word) (v : Byte) (s : State) :
    (memWrite addr v s).mem = if (region addr).isWritable then s.mem.set (canon addr).toNat v else s.mem := by
  unfold memWrite
  split
  · rename_i h
    simp [State.place, Region.isStorage_of_isWritable h]
  · simp

/-- A read of a storage address, whole. -/
theorem memRead_storage {addr : Word} (h : (region addr).isStorage = true) (s : State) :
    memRead addr s = (s.stored addr, s.record (.read addr (s.stored addr))) := by
  simp [memRead, h]

/-! ## Fetching -/

/-- The four kinds of opcode byte (30_encoding.md R73, R74). -/
theorem lookup_cases (op : Byte) :
    (∃ i, lookup op = .one i ∧ i.length = 1 ∧ i.mnemonic ≠ .ill)
    ∨ (∃ f, lookup op = .two f ∧ ∀ v, (f v).length = 2 ∧ (f v).mnemonic ≠ .ill)
    ∨ (∃ f, lookup op = .three f ∧ ∀ w, (f w).length = 3 ∧ (f w).mnemonic ≠ .ill)
    ∨ (lookup op = .ill ∧ op ∈ unimplementedOpcodes) := by
  have all : ∀ n, n < 256 →
      (∃ i, lookup (BitVec.ofNat 8 n) = .one i ∧ i.length = 1 ∧ i.mnemonic ≠ .ill)
      ∨ (∃ f, lookup (BitVec.ofNat 8 n) = .two f ∧ ∀ v, (f v).length = 2 ∧ (f v).mnemonic ≠ .ill)
      ∨ (∃ f, lookup (BitVec.ofNat 8 n) = .three f ∧ ∀ w, (f w).length = 3 ∧ (f w).mnemonic ≠ .ill)
      ∨ (lookup (BitVec.ofNat 8 n) = .ill ∧ BitVec.ofNat 8 n ∈ unimplementedOpcodes) := by
    intro n hn
    interval_cases n <;> first
      | exact .inr (.inr (.inr ⟨by rfl, by decide⟩))
      | exact .inl ⟨_, by rfl, by rfl, by simp [Instr.mnemonic]⟩
      | exact .inr (.inl ⟨_, by rfl, fun v => ⟨by rfl, by simp [Instr.mnemonic]⟩⟩)
      | exact .inr (.inr (.inl ⟨_, by rfl, fun v => ⟨by rfl, by simp [Instr.mnemonic]⟩⟩))
  simpa using all op.toNat op.isLt

/-- A fetch changes only `draws` and `bus`. -/
theorem fetchAt_state (addr : Word) (s : State) :
    (fetchAt addr s).2 = { s with draws := (fetchAt addr s).2.draws, bus := (fetchAt addr s).2.bus } := by
  unfold fetchAt
  dsimp only
  split <;> exact State.ext_fields (by simp) (by simp) (by simp) (by simp) (by simp) (by simp) (by simp) (by simp)
    (by simp) (by simp) rfl rfl

@[simp] theorem fetch_a (s : State) : (fetch s).2.a = s.a := by rw [fetch, fetchAt_state]
@[simp] theorem fetch_x (s : State) : (fetch s).2.x = s.x := by rw [fetch, fetchAt_state]
@[simp] theorem fetch_y (s : State) : (fetch s).2.y = s.y := by rw [fetch, fetchAt_state]
@[simp] theorem fetch_sp (s : State) : (fetch s).2.sp = s.sp := by rw [fetch, fetchAt_state]
@[simp] theorem fetch_pc (s : State) : (fetch s).2.pc = s.pc := by rw [fetch, fetchAt_state]
@[simp] theorem fetch_p (s : State) : (fetch s).2.p = s.p := by rw [fetch, fetchAt_state]
@[simp] theorem fetch_nmiPending (s : State) : (fetch s).2.nmiPending = s.nmiPending := by rw [fetch, fetchAt_state]
@[simp] theorem fetch_irqPending (s : State) : (fetch s).2.irqPending = s.irqPending := by rw [fetch, fetchAt_state]
@[simp] theorem fetch_cycles (s : State) : (fetch s).2.cycles = s.cycles := by rw [fetch, fetchAt_state]
@[simp] theorem fetch_mem (s : State) : (fetch s).2.mem = s.mem := by rw [fetch, fetchAt_state]

/-! ## Outcomes -/

/-- A branch always goes on, and changes PC and cycles alone (43_branches_jumps.md R180). -/
theorem branchOp_next (cond : Bool) (off : Byte) (cycles : Nat) (s : State) :
    ∃ w n, branchOp cond off cycles s = .next { s with pc := w, cycles := s.cycles + (cycles + n) } ∧ n ≤ 2 := by
  unfold branchOp
  dsimp only
  split
  · refine ⟨_, _, rfl, ?_⟩
    split <;> omega
  · exact ⟨_, 0, rfl, by omega⟩

/-- Every implemented instruction goes on, in every state. -/
theorem exec_next {i : Instr} (h : i.mnemonic ≠ .ill) (s : State) : ∃ t, exec i s = .next t := by
  cases i
  case ill => simp [Instr.mnemonic] at h
  all_goals first
    | exact ⟨_, rfl⟩
    | exact (branchOp_next _ _ _ _).elim fun w hw => hw.elim fun n hn => ⟨_, hn.1⟩

/-- The three things a step that goes on can have done (40_step_and_addressing.md R101). -/
theorem step_cases {s t : State} (h : step s = .next t) :
    (s.nmiPending = true ∧ t = serviceNmi s.clearBus)
    ∨ (s.nmiPending = false ∧ irqServiceable s = true ∧ t = serviceIrq s.clearBus)
    ∨ (s.nmiPending = false ∧ irqServiceable s = false
        ∧ exec (fetch s.clearBus).1 (fetch s.clearBus).2 = .next t) := by
  have hirq : irqServiceable s.clearBus = irqServiceable s := rfl
  simp only [step, hirq, State.clearBus_nmiPending] at h
  cases hn : s.nmiPending
  · cases hi : irqServiceable s
    · simp only [hn, hi, Bool.false_eq_true, if_false] at h
      exact .inr (.inr ⟨rfl, rfl, h⟩)
    · simp only [hn, hi, Bool.false_eq_true, if_false, if_true] at h
      exact .inr (.inl ⟨rfl, rfl, (Host.Outcome.next.inj h).symm⟩)
  · simp only [hn, if_true] at h
    exact .inl ⟨rfl, (Host.Outcome.next.inj h).symm⟩

end Machine

end Sys2Proof
end

