-- ==== Sys2Proof/Laws/Run.lean ====
section
/-! SUPPORT. Loading a program and runs: what `placeBytes` leaves, the induction over a run packaged once, and where
a run ends. -/

namespace Sys2Proof.Machine

/-! ## Loading -/

/-- Two sequences placed one after the other: the later is placed over the earlier. -/
theorem placeBytes_append (vs ws : List Byte) (addr : Word) (s : State) :
    placeBytes (vs ++ ws) addr s = placeBytes ws (addr + BitVec.ofNat 16 vs.length) (placeBytes vs addr s) := by
  induction vs generalizing addr s with
  | nil => simp [placeBytes]
  | cons v vs ih =>
    have next : addr + 1#16 + BitVec.ofNat 16 vs.length = addr + BitVec.ofNat 16 (vs.length + 1) := by
      rw [BitVec.add_assoc, ← BitVec.ofNat_add, Nat.add_comm]
    simp only [List.cons_append, placeBytes, ih, List.length_cons, next]

@[simp] theorem placeBytes_a (vs : List Byte) (addr : Word) (s : State) : (placeBytes vs addr s).a = s.a := by
  induction vs generalizing addr s <;> simp [placeBytes, *]
@[simp] theorem placeBytes_x (vs : List Byte) (addr : Word) (s : State) : (placeBytes vs addr s).x = s.x := by
  induction vs generalizing addr s <;> simp [placeBytes, *]
@[simp] theorem placeBytes_y (vs : List Byte) (addr : Word) (s : State) : (placeBytes vs addr s).y = s.y := by
  induction vs generalizing addr s <;> simp [placeBytes, *]
@[simp] theorem placeBytes_sp (vs : List Byte) (addr : Word) (s : State) : (placeBytes vs addr s).sp = s.sp := by
  induction vs generalizing addr s <;> simp [placeBytes, *]
@[simp] theorem placeBytes_pc (vs : List Byte) (addr : Word) (s : State) : (placeBytes vs addr s).pc = s.pc := by
  induction vs generalizing addr s <;> simp [placeBytes, *]
@[simp] theorem placeBytes_p (vs : List Byte) (addr : Word) (s : State) : (placeBytes vs addr s).p = s.p := by
  induction vs generalizing addr s <;> simp [placeBytes, *]
@[simp] theorem placeBytes_nmiPending (vs : List Byte) (addr : Word) (s : State) :
    (placeBytes vs addr s).nmiPending = s.nmiPending := by
  induction vs generalizing addr s <;> simp [placeBytes, *]
@[simp] theorem placeBytes_irqPending (vs : List Byte) (addr : Word) (s : State) :
    (placeBytes vs addr s).irqPending = s.irqPending := by
  induction vs generalizing addr s <;> simp [placeBytes, *]
@[simp] theorem placeBytes_cycles (vs : List Byte) (addr : Word) (s : State) :
    (placeBytes vs addr s).cycles = s.cycles := by
  induction vs generalizing addr s <;> simp [placeBytes, *]
@[simp] theorem placeBytes_draws (vs : List Byte) (addr : Word) (s : State) :
    (placeBytes vs addr s).draws = s.draws := by
  induction vs generalizing addr s <;> simp [placeBytes, *]
@[simp] theorem placeBytes_bus (vs : List Byte) (addr : Word) (s : State) : (placeBytes vs addr s).bus = s.bus := by
  induction vs generalizing addr s <;> simp [placeBytes, *]

/-! ## Runs -/

/-- A run begins with a boundary at which `stop` holds, or with a step. -/
theorem runUntil_of_stop {stop : State → Bool} {s : State} (h : stop s = true) (fuel : Nat) :
    runUntil stop fuel s = .ended s := by
  cases fuel <;> simp [runUntil, h]

/-- One step of a run that goes on. -/
theorem runUntil_of_next {stop : State → Bool} {s t : State} (h : stop s = false) (hs : step s = .next t)
    (fuel : Nat) : runUntil stop (fuel + 1) s = runUntil stop fuel t := by
  simp [runUntil, h, hs]

/-- A fault cuts a run short (70_reset_and_hazards.md R286). -/
theorem runUntil_of_fault {stop : State → Bool} {s : State} {f : Fault} (h : stop s = false) (hs : step s = .fault f)
    (fuel : Nat) : runUntil stop (fuel + 1) s = .faulted f := by
  simp [runUntil, h, hs]

/-- What holds at the start of a run and is kept by every step holds where the run ends or stands; where it has ended,
`stop` holds too. -/
theorem runUntil_invariant {stop : State → Bool} {P : State → Prop}
    (keeps : ∀ s t, P s → step s = .next t → P t) (fuel : Nat) {s t : State} (start : P s) :
    (runUntil stop fuel s = .ended t → P t ∧ stop t = true)
    ∧ (runUntil stop fuel s = .unfinished t → P t ∧ stop t = false) := by
  induction fuel generalizing s with
  | zero =>
    cases h : stop s <;> simp only [runUntil, h, if_true, Bool.false_eq_true, if_false, reduceCtorEq, false_imp_iff,
      RunOutcome.ended.injEq, RunOutcome.unfinished.injEq, true_and, and_true]
    all_goals rintro rfl; exact ⟨start, h⟩
  | succ fuel ih =>
    cases h : stop s
    · cases hs : step s with
      | next s' => rw [runUntil_of_next h hs]; exact ih (keeps s s' start hs)
      | fault f => simp [runUntil, h, hs]
      | refused r => simp [runUntil, h, hs]
    · rw [runUntil_of_stop h]
      simp only [RunOutcome.ended.injEq, reduceCtorEq, false_imp_iff, and_true]
      rintro rfl
      exact ⟨start, h⟩

/-- `run` never ends: it only faults, is refused, or reaches its bound (40_step_and_addressing.md R123). -/
theorem run_ne_ended (fuel : Nat) (s t : State) : run fuel s ≠ .ended t := by
  intro h
  have stopped := ((runUntil_invariant (P := fun _ => True) (fun _ _ _ _ => trivial) fuel trivial).1 h).2
  cases stopped

end Sys2Proof.Machine
end

