-- ==== Sys2Proof/Laws/Shapes.lean ====
section
/-! SUPPORT. The shapes of all instructions, said once: every outcome of `exec` is that of one shared shape, with
an operation of which the needed bounds are given. Invariants follow from one case per shape. -/

namespace Sys2Proof.Machine

/-- An operand's operation that writes A, X, Y and P alone and keeps the stored B. -/
def ChangesRegisters (f : Byte → State → State) : Prop :=
  ∀ v s, ∃ a x y p, f v s = { s with a := a, x := x, y := y, p := p } ∧ p.b = s.p.b

/-- An operation that writes A, X, Y, SP and P alone and keeps the stored B. -/
def RegistersOnly (f : State → State) : Prop :=
  ∀ s, ∃ a x y sp p, f s = { s with a := a, x := x, y := y, sp := sp, p := p } ∧ p.b = s.p.b

/-- A read-modify-write operation that keeps the stored B. -/
def KeepsBreak (f : Modify) : Prop := ∀ v p, (f v p).2.b = p.b

theorem changesRegisters_addA : ChangesRegisters addA := fun _ _ => ⟨_, _, _, _, rfl, rfl⟩
theorem changesRegisters_subA : ChangesRegisters subA := fun _ _ => ⟨_, _, _, _, rfl, rfl⟩
theorem changesRegisters_compareA : ChangesRegisters compareA := fun _ _ => ⟨_, _, _, _, rfl, rfl⟩
theorem changesRegisters_compareX : ChangesRegisters compareX := fun _ _ => ⟨_, _, _, _, rfl, rfl⟩
theorem changesRegisters_compareY : ChangesRegisters compareY := fun _ _ => ⟨_, _, _, _, rfl, rfl⟩
theorem changesRegisters_andA : ChangesRegisters andA := fun _ _ => ⟨_, _, _, _, rfl, rfl⟩
theorem changesRegisters_oraA : ChangesRegisters oraA := fun _ _ => ⟨_, _, _, _, rfl, rfl⟩
theorem changesRegisters_eorA : ChangesRegisters eorA := fun _ _ => ⟨_, _, _, _, rfl, rfl⟩
theorem changesRegisters_bitTest : ChangesRegisters bitTest := fun _ _ => ⟨_, _, _, _, rfl, rfl⟩
theorem changesRegisters_loadA : ChangesRegisters loadA := fun _ _ => ⟨_, _, _, _, rfl, rfl⟩
theorem changesRegisters_loadX : ChangesRegisters loadX := fun _ _ => ⟨_, _, _, _, rfl, rfl⟩
theorem changesRegisters_loadY : ChangesRegisters loadY := fun _ _ => ⟨_, _, _, _, rfl, rfl⟩

theorem registersOnly_incrementX : RegistersOnly incrementX := fun _ => ⟨_, _, _, _, _, rfl, rfl⟩
theorem registersOnly_incrementY : RegistersOnly incrementY := fun _ => ⟨_, _, _, _, _, rfl, rfl⟩
theorem registersOnly_decrementX : RegistersOnly decrementX := fun _ => ⟨_, _, _, _, _, rfl, rfl⟩
theorem registersOnly_decrementY : RegistersOnly decrementY := fun _ => ⟨_, _, _, _, _, rfl, rfl⟩
theorem registersOnly_transferAX : RegistersOnly transferAX := fun _ => ⟨_, _, _, _, _, rfl, rfl⟩
theorem registersOnly_transferAY : RegistersOnly transferAY := fun _ => ⟨_, _, _, _, _, rfl, rfl⟩
theorem registersOnly_transferXA : RegistersOnly transferXA := fun _ => ⟨_, _, _, _, _, rfl, rfl⟩
theorem registersOnly_transferYA : RegistersOnly transferYA := fun _ => ⟨_, _, _, _, _, rfl, rfl⟩
theorem registersOnly_transferSX : RegistersOnly transferSX := fun _ => ⟨_, _, _, _, _, rfl, rfl⟩
theorem registersOnly_transferXS : RegistersOnly transferXS := fun _ => ⟨_, _, _, _, _, rfl, rfl⟩
theorem registersOnly_noOperation : RegistersOnly noOperation := fun _ => ⟨_, _, _, _, _, rfl, rfl⟩
theorem registersOnly_clearC : RegistersOnly clearC := fun _ => ⟨_, _, _, _, _, rfl, rfl⟩
theorem registersOnly_setC : RegistersOnly setC := fun _ => ⟨_, _, _, _, _, rfl, rfl⟩
theorem registersOnly_clearI : RegistersOnly clearI := fun _ => ⟨_, _, _, _, _, rfl, rfl⟩
theorem registersOnly_setI : RegistersOnly setI := fun _ => ⟨_, _, _, _, _, rfl, rfl⟩
theorem registersOnly_clearD : RegistersOnly clearD := fun _ => ⟨_, _, _, _, _, rfl, rfl⟩
theorem registersOnly_setD : RegistersOnly setD := fun _ => ⟨_, _, _, _, _, rfl, rfl⟩
theorem registersOnly_clearV : RegistersOnly clearV := fun _ => ⟨_, _, _, _, _, rfl, rfl⟩

theorem keepsBreak_increment : KeepsBreak increment := fun _ _ => rfl
theorem keepsBreak_decrement : KeepsBreak decrement := fun _ _ => rfl
theorem keepsBreak_shiftLeft : KeepsBreak shiftLeft := fun _ _ => rfl
theorem keepsBreak_shiftRight : KeepsBreak shiftRight := fun _ _ => rfl
theorem keepsBreak_rotateLeft : KeepsBreak rotateLeft := fun _ _ => rfl
theorem keepsBreak_rotateRight : KeepsBreak rotateRight := fun _ _ => rfl

/-- The outcome of every instruction is that of one shape. -/
theorem exec_shape (i : Instr) (s : State) :
    (∃ f src n marked, ChangesRegisters f ∧ 2 ≤ n ∧ n ≤ 6 ∧ exec i s = readOp f src n marked s)
    ∨ (∃ v m n, 3 ≤ n ∧ n ≤ 6 ∧ exec i s = storeOp v m n s)
    ∨ (∃ f pl n, KeepsBreak f ∧ 2 ≤ n ∧ n ≤ 7 ∧ exec i s = modifyOp f pl n s)
    ∨ (∃ f, RegistersOnly f ∧ exec i s = impliedOp f 2 s)
    ∨ (exec i s = impliedOp pushA 3 s ∨ exec i s = impliedOp pushP 3 s
      ∨ exec i s = impliedOp pullA 4 s ∨ exec i s = impliedOp pullP 4 s
      ∨ exec i s = impliedOp returnFromSubroutine 6 s ∨ exec i s = impliedOp softwareInterrupt 7 s
      ∨ exec i s = impliedOp returnFromInterrupt 6 s)
    ∨ (∃ cond off, exec i s = branchOp cond off 2 s)
    ∨ (∃ m n, 3 ≤ n ∧ n ≤ 5 ∧ exec i s = jumpOp m n s)
    ∨ (∃ m, exec i s = callOp m 6 s)
    ∨ (∃ opcode, i = .ill opcode ∧ exec i s = .fault (.unimplementedOpcode opcode)) := by
  cases i with
  | adcImm _ => exact .inl ⟨addA, _, _, _, changesRegisters_addA, by decide, by decide, rfl⟩
  | adcZp _ => exact .inl ⟨addA, _, _, _, changesRegisters_addA, by decide, by decide, rfl⟩
  | adcZpx _ => exact .inl ⟨addA, _, _, _, changesRegisters_addA, by decide, by decide, rfl⟩
  | adcAbs _ => exact .inl ⟨addA, _, _, _, changesRegisters_addA, by decide, by decide, rfl⟩
  | adcAbx _ => exact .inl ⟨addA, _, _, _, changesRegisters_addA, by decide, by decide, rfl⟩
  | adcAby _ => exact .inl ⟨addA, _, _, _, changesRegisters_addA, by decide, by decide, rfl⟩
  | adcIzx _ => exact .inl ⟨addA, _, _, _, changesRegisters_addA, by decide, by decide, rfl⟩
  | adcIzy _ => exact .inl ⟨addA, _, _, _, changesRegisters_addA, by decide, by decide, rfl⟩
  | sbcImm _ => exact .inl ⟨subA, _, _, _, changesRegisters_subA, by decide, by decide, rfl⟩
  | sbcZp _ => exact .inl ⟨subA, _, _, _, changesRegisters_subA, by decide, by decide, rfl⟩
  | sbcZpx _ => exact .inl ⟨subA, _, _, _, changesRegisters_subA, by decide, by decide, rfl⟩
  | sbcAbs _ => exact .inl ⟨subA, _, _, _, changesRegisters_subA, by decide, by decide, rfl⟩
  | sbcAbx _ => exact .inl ⟨subA, _, _, _, changesRegisters_subA, by decide, by decide, rfl⟩
  | sbcAby _ => exact .inl ⟨subA, _, _, _, changesRegisters_subA, by decide, by decide, rfl⟩
  | sbcIzx _ => exact .inl ⟨subA, _, _, _, changesRegisters_subA, by decide, by decide, rfl⟩
  | sbcIzy _ => exact .inl ⟨subA, _, _, _, changesRegisters_subA, by decide, by decide, rfl⟩
  | cmpImm _ => exact .inl ⟨compareA, _, _, _, changesRegisters_compareA, by decide, by decide, rfl⟩
  | cmpZp _ => exact .inl ⟨compareA, _, _, _, changesRegisters_compareA, by decide, by decide, rfl⟩
  | cmpZpx _ => exact .inl ⟨compareA, _, _, _, changesRegisters_compareA, by decide, by decide, rfl⟩
  | cmpAbs _ => exact .inl ⟨compareA, _, _, _, changesRegisters_compareA, by decide, by decide, rfl⟩
  | cmpAbx _ => exact .inl ⟨compareA, _, _, _, changesRegisters_compareA, by decide, by decide, rfl⟩
  | cmpAby _ => exact .inl ⟨compareA, _, _, _, changesRegisters_compareA, by decide, by decide, rfl⟩
  | cmpIzx _ => exact .inl ⟨compareA, _, _, _, changesRegisters_compareA, by decide, by decide, rfl⟩
  | cmpIzy _ => exact .inl ⟨compareA, _, _, _, changesRegisters_compareA, by decide, by decide, rfl⟩
  | cpxImm _ => exact .inl ⟨compareX, _, _, _, changesRegisters_compareX, by decide, by decide, rfl⟩
  | cpxZp _ => exact .inl ⟨compareX, _, _, _, changesRegisters_compareX, by decide, by decide, rfl⟩
  | cpxAbs _ => exact .inl ⟨compareX, _, _, _, changesRegisters_compareX, by decide, by decide, rfl⟩
  | cpyImm _ => exact .inl ⟨compareY, _, _, _, changesRegisters_compareY, by decide, by decide, rfl⟩
  | cpyZp _ => exact .inl ⟨compareY, _, _, _, changesRegisters_compareY, by decide, by decide, rfl⟩
  | cpyAbs _ => exact .inl ⟨compareY, _, _, _, changesRegisters_compareY, by decide, by decide, rfl⟩
  | incZp _ => exact .inr (.inr (.inl ⟨increment, _, _, keepsBreak_increment, by decide, by decide, rfl⟩))
  | incZpx _ => exact .inr (.inr (.inl ⟨increment, _, _, keepsBreak_increment, by decide, by decide, rfl⟩))
  | incAbs _ => exact .inr (.inr (.inl ⟨increment, _, _, keepsBreak_increment, by decide, by decide, rfl⟩))
  | incAbx _ => exact .inr (.inr (.inl ⟨increment, _, _, keepsBreak_increment, by decide, by decide, rfl⟩))
  | inx => exact .inr (.inr (.inr (.inl ⟨incrementX, registersOnly_incrementX, rfl⟩)))
  | iny => exact .inr (.inr (.inr (.inl ⟨incrementY, registersOnly_incrementY, rfl⟩)))
  | decZp _ => exact .inr (.inr (.inl ⟨decrement, _, _, keepsBreak_decrement, by decide, by decide, rfl⟩))
  | decZpx _ => exact .inr (.inr (.inl ⟨decrement, _, _, keepsBreak_decrement, by decide, by decide, rfl⟩))
  | decAbs _ => exact .inr (.inr (.inl ⟨decrement, _, _, keepsBreak_decrement, by decide, by decide, rfl⟩))
  | decAbx _ => exact .inr (.inr (.inl ⟨decrement, _, _, keepsBreak_decrement, by decide, by decide, rfl⟩))
  | dex => exact .inr (.inr (.inr (.inl ⟨decrementX, registersOnly_decrementX, rfl⟩)))
  | dey => exact .inr (.inr (.inr (.inl ⟨decrementY, registersOnly_decrementY, rfl⟩)))
  | andImm _ => exact .inl ⟨andA, _, _, _, changesRegisters_andA, by decide, by decide, rfl⟩
  | andZp _ => exact .inl ⟨andA, _, _, _, changesRegisters_andA, by decide, by decide, rfl⟩
  | andZpx _ => exact .inl ⟨andA, _, _, _, changesRegisters_andA, by decide, by decide, rfl⟩
  | andAbs _ => exact .inl ⟨andA, _, _, _, changesRegisters_andA, by decide, by decide, rfl⟩
  | andAbx _ => exact .inl ⟨andA, _, _, _, changesRegisters_andA, by decide, by decide, rfl⟩
  | andAby _ => exact .inl ⟨andA, _, _, _, changesRegisters_andA, by decide, by decide, rfl⟩
  | andIzx _ => exact .inl ⟨andA, _, _, _, changesRegisters_andA, by decide, by decide, rfl⟩
  | andIzy _ => exact .inl ⟨andA, _, _, _, changesRegisters_andA, by decide, by decide, rfl⟩
  | oraImm _ => exact .inl ⟨oraA, _, _, _, changesRegisters_oraA, by decide, by decide, rfl⟩
  | oraZp _ => exact .inl ⟨oraA, _, _, _, changesRegisters_oraA, by decide, by decide, rfl⟩
  | oraZpx _ => exact .inl ⟨oraA, _, _, _, changesRegisters_oraA, by decide, by decide, rfl⟩
  | oraAbs _ => exact .inl ⟨oraA, _, _, _, changesRegisters_oraA, by decide, by decide, rfl⟩
  | oraAbx _ => exact .inl ⟨oraA, _, _, _, changesRegisters_oraA, by decide, by decide, rfl⟩
  | oraAby _ => exact .inl ⟨oraA, _, _, _, changesRegisters_oraA, by decide, by decide, rfl⟩
  | oraIzx _ => exact .inl ⟨oraA, _, _, _, changesRegisters_oraA, by decide, by decide, rfl⟩
  | oraIzy _ => exact .inl ⟨oraA, _, _, _, changesRegisters_oraA, by decide, by decide, rfl⟩
  | eorImm _ => exact .inl ⟨eorA, _, _, _, changesRegisters_eorA, by decide, by decide, rfl⟩
  | eorZp _ => exact .inl ⟨eorA, _, _, _, changesRegisters_eorA, by decide, by decide, rfl⟩
  | eorZpx _ => exact .inl ⟨eorA, _, _, _, changesRegisters_eorA, by decide, by decide, rfl⟩
  | eorAbs _ => exact .inl ⟨eorA, _, _, _, changesRegisters_eorA, by decide, by decide, rfl⟩
  | eorAbx _ => exact .inl ⟨eorA, _, _, _, changesRegisters_eorA, by decide, by decide, rfl⟩
  | eorAby _ => exact .inl ⟨eorA, _, _, _, changesRegisters_eorA, by decide, by decide, rfl⟩
  | eorIzx _ => exact .inl ⟨eorA, _, _, _, changesRegisters_eorA, by decide, by decide, rfl⟩
  | eorIzy _ => exact .inl ⟨eorA, _, _, _, changesRegisters_eorA, by decide, by decide, rfl⟩
  | bitZp _ => exact .inl ⟨bitTest, _, _, _, changesRegisters_bitTest, by decide, by decide, rfl⟩
  | bitAbs _ => exact .inl ⟨bitTest, _, _, _, changesRegisters_bitTest, by decide, by decide, rfl⟩
  | aslAcc => exact .inr (.inr (.inl ⟨shiftLeft, _, _, keepsBreak_shiftLeft, by decide, by decide, rfl⟩))
  | aslZp _ => exact .inr (.inr (.inl ⟨shiftLeft, _, _, keepsBreak_shiftLeft, by decide, by decide, rfl⟩))
  | aslZpx _ => exact .inr (.inr (.inl ⟨shiftLeft, _, _, keepsBreak_shiftLeft, by decide, by decide, rfl⟩))
  | aslAbs _ => exact .inr (.inr (.inl ⟨shiftLeft, _, _, keepsBreak_shiftLeft, by decide, by decide, rfl⟩))
  | aslAbx _ => exact .inr (.inr (.inl ⟨shiftLeft, _, _, keepsBreak_shiftLeft, by decide, by decide, rfl⟩))
  | lsrAcc => exact .inr (.inr (.inl ⟨shiftRight, _, _, keepsBreak_shiftRight, by decide, by decide, rfl⟩))
  | lsrZp _ => exact .inr (.inr (.inl ⟨shiftRight, _, _, keepsBreak_shiftRight, by decide, by decide, rfl⟩))
  | lsrZpx _ => exact .inr (.inr (.inl ⟨shiftRight, _, _, keepsBreak_shiftRight, by decide, by decide, rfl⟩))
  | lsrAbs _ => exact .inr (.inr (.inl ⟨shiftRight, _, _, keepsBreak_shiftRight, by decide, by decide, rfl⟩))
  | lsrAbx _ => exact .inr (.inr (.inl ⟨shiftRight, _, _, keepsBreak_shiftRight, by decide, by decide, rfl⟩))
  | rolAcc => exact .inr (.inr (.inl ⟨rotateLeft, _, _, keepsBreak_rotateLeft, by decide, by decide, rfl⟩))
  | rolZp _ => exact .inr (.inr (.inl ⟨rotateLeft, _, _, keepsBreak_rotateLeft, by decide, by decide, rfl⟩))
  | rolZpx _ => exact .inr (.inr (.inl ⟨rotateLeft, _, _, keepsBreak_rotateLeft, by decide, by decide, rfl⟩))
  | rolAbs _ => exact .inr (.inr (.inl ⟨rotateLeft, _, _, keepsBreak_rotateLeft, by decide, by decide, rfl⟩))
  | rolAbx _ => exact .inr (.inr (.inl ⟨rotateLeft, _, _, keepsBreak_rotateLeft, by decide, by decide, rfl⟩))
  | rorAcc => exact .inr (.inr (.inl ⟨rotateRight, _, _, keepsBreak_rotateRight, by decide, by decide, rfl⟩))
  | rorZp _ => exact .inr (.inr (.inl ⟨rotateRight, _, _, keepsBreak_rotateRight, by decide, by decide, rfl⟩))
  | rorZpx _ => exact .inr (.inr (.inl ⟨rotateRight, _, _, keepsBreak_rotateRight, by decide, by decide, rfl⟩))
  | rorAbs _ => exact .inr (.inr (.inl ⟨rotateRight, _, _, keepsBreak_rotateRight, by decide, by decide, rfl⟩))
  | rorAbx _ => exact .inr (.inr (.inl ⟨rotateRight, _, _, keepsBreak_rotateRight, by decide, by decide, rfl⟩))
  | bcc _ => exact .inr (.inr (.inr (.inr (.inr (.inl ⟨_, _, rfl⟩)))))
  | bcs _ => exact .inr (.inr (.inr (.inr (.inr (.inl ⟨_, _, rfl⟩)))))
  | beq _ => exact .inr (.inr (.inr (.inr (.inr (.inl ⟨_, _, rfl⟩)))))
  | bne _ => exact .inr (.inr (.inr (.inr (.inr (.inl ⟨_, _, rfl⟩)))))
  | bmi _ => exact .inr (.inr (.inr (.inr (.inr (.inl ⟨_, _, rfl⟩)))))
  | bpl _ => exact .inr (.inr (.inr (.inr (.inr (.inl ⟨_, _, rfl⟩)))))
  | bvc _ => exact .inr (.inr (.inr (.inr (.inr (.inl ⟨_, _, rfl⟩)))))
  | bvs _ => exact .inr (.inr (.inr (.inr (.inr (.inl ⟨_, _, rfl⟩)))))
  | jmpAbs _ => exact .inr (.inr (.inr (.inr (.inr (.inr (.inl ⟨_, _, by decide, by decide, rfl⟩))))))
  | jmpInd _ => exact .inr (.inr (.inr (.inr (.inr (.inr (.inl ⟨_, _, by decide, by decide, rfl⟩))))))
  | jsr _ => exact .inr (.inr (.inr (.inr (.inr (.inr (.inr (.inl ⟨_, rfl⟩)))))))
  | rts => exact .inr (.inr (.inr (.inr (.inl (.inr (.inr (.inr (.inr (.inl rfl)))))))))
  | ldaImm _ => exact .inl ⟨loadA, _, _, _, changesRegisters_loadA, by decide, by decide, rfl⟩
  | ldaZp _ => exact .inl ⟨loadA, _, _, _, changesRegisters_loadA, by decide, by decide, rfl⟩
  | ldaZpx _ => exact .inl ⟨loadA, _, _, _, changesRegisters_loadA, by decide, by decide, rfl⟩
  | ldaAbs _ => exact .inl ⟨loadA, _, _, _, changesRegisters_loadA, by decide, by decide, rfl⟩
  | ldaAbx _ => exact .inl ⟨loadA, _, _, _, changesRegisters_loadA, by decide, by decide, rfl⟩
  | ldaAby _ => exact .inl ⟨loadA, _, _, _, changesRegisters_loadA, by decide, by decide, rfl⟩
  | ldaIzx _ => exact .inl ⟨loadA, _, _, _, changesRegisters_loadA, by decide, by decide, rfl⟩
  | ldaIzy _ => exact .inl ⟨loadA, _, _, _, changesRegisters_loadA, by decide, by decide, rfl⟩
  | ldxImm _ => exact .inl ⟨loadX, _, _, _, changesRegisters_loadX, by decide, by decide, rfl⟩
  | ldxZp _ => exact .inl ⟨loadX, _, _, _, changesRegisters_loadX, by decide, by decide, rfl⟩
  | ldxZpy _ => exact .inl ⟨loadX, _, _, _, changesRegisters_loadX, by decide, by decide, rfl⟩
  | ldxAbs _ => exact .inl ⟨loadX, _, _, _, changesRegisters_loadX, by decide, by decide, rfl⟩
  | ldxAby _ => exact .inl ⟨loadX, _, _, _, changesRegisters_loadX, by decide, by decide, rfl⟩
  | ldyImm _ => exact .inl ⟨loadY, _, _, _, changesRegisters_loadY, by decide, by decide, rfl⟩
  | ldyZp _ => exact .inl ⟨loadY, _, _, _, changesRegisters_loadY, by decide, by decide, rfl⟩
  | ldyZpx _ => exact .inl ⟨loadY, _, _, _, changesRegisters_loadY, by decide, by decide, rfl⟩
  | ldyAbs _ => exact .inl ⟨loadY, _, _, _, changesRegisters_loadY, by decide, by decide, rfl⟩
  | ldyAbx _ => exact .inl ⟨loadY, _, _, _, changesRegisters_loadY, by decide, by decide, rfl⟩
  | staZp _ => exact .inr (.inl ⟨_, _, _, by decide, by decide, rfl⟩)
  | staZpx _ => exact .inr (.inl ⟨_, _, _, by decide, by decide, rfl⟩)
  | staAbs _ => exact .inr (.inl ⟨_, _, _, by decide, by decide, rfl⟩)
  | staAbx _ => exact .inr (.inl ⟨_, _, _, by decide, by decide, rfl⟩)
  | staAby _ => exact .inr (.inl ⟨_, _, _, by decide, by decide, rfl⟩)
  | staIzx _ => exact .inr (.inl ⟨_, _, _, by decide, by decide, rfl⟩)
  | staIzy _ => exact .inr (.inl ⟨_, _, _, by decide, by decide, rfl⟩)
  | stxZp _ => exact .inr (.inl ⟨_, _, _, by decide, by decide, rfl⟩)
  | stxZpy _ => exact .inr (.inl ⟨_, _, _, by decide, by decide, rfl⟩)
  | stxAbs _ => exact .inr (.inl ⟨_, _, _, by decide, by decide, rfl⟩)
  | styZp _ => exact .inr (.inl ⟨_, _, _, by decide, by decide, rfl⟩)
  | styZpx _ => exact .inr (.inl ⟨_, _, _, by decide, by decide, rfl⟩)
  | styAbs _ => exact .inr (.inl ⟨_, _, _, by decide, by decide, rfl⟩)
  | tax => exact .inr (.inr (.inr (.inl ⟨transferAX, registersOnly_transferAX, rfl⟩)))
  | tay => exact .inr (.inr (.inr (.inl ⟨transferAY, registersOnly_transferAY, rfl⟩)))
  | txa => exact .inr (.inr (.inr (.inl ⟨transferXA, registersOnly_transferXA, rfl⟩)))
  | tya => exact .inr (.inr (.inr (.inl ⟨transferYA, registersOnly_transferYA, rfl⟩)))
  | tsx => exact .inr (.inr (.inr (.inl ⟨transferSX, registersOnly_transferSX, rfl⟩)))
  | txs => exact .inr (.inr (.inr (.inl ⟨transferXS, registersOnly_transferXS, rfl⟩)))
  | pha => exact .inr (.inr (.inr (.inr (.inl (.inl rfl)))))
  | php => exact .inr (.inr (.inr (.inr (.inl (.inr (.inl rfl))))))
  | pla => exact .inr (.inr (.inr (.inr (.inl (.inr (.inr (.inl rfl)))))))
  | plp => exact .inr (.inr (.inr (.inr (.inl (.inr (.inr (.inr (.inl rfl))))))))
  | brk => exact .inr (.inr (.inr (.inr (.inl (.inr (.inr (.inr (.inr (.inr (.inl rfl))))))))))
  | rti => exact .inr (.inr (.inr (.inr (.inl (.inr (.inr (.inr (.inr (.inr (.inr (rfl)))))))))))
  | nop => exact .inr (.inr (.inr (.inl ⟨noOperation, registersOnly_noOperation, rfl⟩)))
  | clc => exact .inr (.inr (.inr (.inl ⟨clearC, registersOnly_clearC, rfl⟩)))
  | sec => exact .inr (.inr (.inr (.inl ⟨setC, registersOnly_setC, rfl⟩)))
  | cli => exact .inr (.inr (.inr (.inl ⟨clearI, registersOnly_clearI, rfl⟩)))
  | sei => exact .inr (.inr (.inr (.inl ⟨setI, registersOnly_setI, rfl⟩)))
  | cld => exact .inr (.inr (.inr (.inl ⟨clearD, registersOnly_clearD, rfl⟩)))
  | sed => exact .inr (.inr (.inr (.inl ⟨setD, registersOnly_setD, rfl⟩)))
  | clv => exact .inr (.inr (.inr (.inl ⟨clearV, registersOnly_clearV, rfl⟩)))
  | ill _ => exact .inr (.inr (.inr (.inr (.inr (.inr (.inr (.inr (⟨_, rfl, rfl⟩))))))))

end Sys2Proof.Machine
end

