-- ==== Sys2Proof/Tests/Slice0.lean ====
section
/-! SUPPORT. The model's own tests: well-formedness, decoding, single steps of the vectors of 95_test_vectors.md
(expected values are the spec's), and a witness for the hypotheses of each statement. -/

set_option maxRecDepth 4000

namespace Sys2Proof.Tests

open Sys2Proof.Machine Sys2Proof.Claims

/-- A state with its registers, P as a byte, and bytes placed at PC and at other addresses. -/
def start (a x y sp : Byte) (pc : Word) (p : Byte) (code : List Byte) (mem : List (Word × Byte)) : State :=
  let s : State := { State.reset with a := a, x := x, y := y, sp := sp, pc := pc, p := Status.reset.loadByte p }
  mem.foldl (fun s c => s.place c.1 c.2) (placeBytes code pc s)

/-- What the rows of 95_test_vectors.md list: A, X, Y, SP, PC, P as a byte, and the cycle count. -/
structure Regs where
  a : Byte
  x : Byte
  y : Byte
  sp : Byte
  pc : Word
  p : Byte
  cycles : Nat
deriving DecidableEq, Repr

/-- The registers and the cycles of one step that answers a next state. -/
def regs (s : State) : Option Regs :=
  match step s with
  | .next t => some ⟨t.a, t.x, t.y, t.sp, t.pc, t.p.asByte, t.cycles⟩
  | .fault _ => none
  | .refused _ => none

/-- Bytes of storage after one step that answers a next state. -/
def bytes (s : State) (addrs : List Word) : Option (List Byte) :=
  match step s with
  | .next t => some (addrs.map t.stored)
  | .fault _ => none
  | .refused _ => none

/-- The fault of one step. -/
def stops (s : State) : Option Fault :=
  match step s with
  | .next _ => none
  | .fault f => some f
  | .refused _ => none

/-! ## Well-formedness -/

/-- ILL with an opcode byte that the table implements is ill formed; the check refuses it (30_encoding.md R77). -/
theorem test_wf_refuses_implemented_opcode_in_ill : (Instr.ill 0xA9).wf = false := by decide

/-- ILL with an unimplemented opcode byte, and an operand byte of any value, are well formed (R72). -/
theorem test_wf_accepts : (Instr.ill 0x02).wf = true ∧ (Instr.ldaImm 0xFF).wf = true := by decide

/-! ## Decoding -/

/-- The instruction whose bytes are exactly these. -/
def reads (bytes : List Byte) : Option Instr :=
  match decodeBytes bytes with
  | .ok (i, []) => some i
  | .ok (_, _ :: _) => none
  | .error _ => none

/-- The words of 41_arithmetic.md, written out from spec/opcode_table.json: opcode byte, then the operand byte or the
low and the high operand byte (30_encoding.md R71, R75). -/
theorem test_decode_arithmetic :
    reads [0x61, 0x9A] = some (.adcIzx 0x9A)
    ∧ reads [0x65, 0x9A] = some (.adcZp 0x9A)
    ∧ reads [0x69, 0x9A] = some (.adcImm 0x9A)
    ∧ reads [0x6D, 0x9A, 0x02] = some (.adcAbs 0x029A)
    ∧ reads [0x71, 0x9A] = some (.adcIzy 0x9A)
    ∧ reads [0x75, 0x9A] = some (.adcZpx 0x9A)
    ∧ reads [0x79, 0x9A, 0x02] = some (.adcAby 0x029A)
    ∧ reads [0x7D, 0x9A, 0x02] = some (.adcAbx 0x029A)
    ∧ reads [0xE1, 0x9A] = some (.sbcIzx 0x9A)
    ∧ reads [0xE5, 0x9A] = some (.sbcZp 0x9A)
    ∧ reads [0xE9, 0x9A] = some (.sbcImm 0x9A)
    ∧ reads [0xED, 0x9A, 0x02] = some (.sbcAbs 0x029A)
    ∧ reads [0xF1, 0x9A] = some (.sbcIzy 0x9A)
    ∧ reads [0xF5, 0x9A] = some (.sbcZpx 0x9A)
    ∧ reads [0xF9, 0x9A, 0x02] = some (.sbcAby 0x029A)
    ∧ reads [0xFD, 0x9A, 0x02] = some (.sbcAbx 0x029A) := by decide

/-- The words of 41_arithmetic.md, written out from spec/opcode_table.json: opcode byte, then the operand byte or the
low and the high operand byte (30_encoding.md R71, R75). -/
theorem test_decode_compare_and_count :
    reads [0xC1, 0x9A] = some (.cmpIzx 0x9A)
    ∧ reads [0xC5, 0x9A] = some (.cmpZp 0x9A)
    ∧ reads [0xC9, 0x9A] = some (.cmpImm 0x9A)
    ∧ reads [0xCD, 0x9A, 0x02] = some (.cmpAbs 0x029A)
    ∧ reads [0xD1, 0x9A] = some (.cmpIzy 0x9A)
    ∧ reads [0xD5, 0x9A] = some (.cmpZpx 0x9A)
    ∧ reads [0xD9, 0x9A, 0x02] = some (.cmpAby 0x029A)
    ∧ reads [0xDD, 0x9A, 0x02] = some (.cmpAbx 0x029A)
    ∧ reads [0xE0, 0x9A] = some (.cpxImm 0x9A)
    ∧ reads [0xE4, 0x9A] = some (.cpxZp 0x9A)
    ∧ reads [0xEC, 0x9A, 0x02] = some (.cpxAbs 0x029A)
    ∧ reads [0xC0, 0x9A] = some (.cpyImm 0x9A)
    ∧ reads [0xC4, 0x9A] = some (.cpyZp 0x9A)
    ∧ reads [0xCC, 0x9A, 0x02] = some (.cpyAbs 0x029A)
    ∧ reads [0xE6, 0x9A] = some (.incZp 0x9A)
    ∧ reads [0xEE, 0x9A, 0x02] = some (.incAbs 0x029A)
    ∧ reads [0xF6, 0x9A] = some (.incZpx 0x9A)
    ∧ reads [0xFE, 0x9A, 0x02] = some (.incAbx 0x029A)
    ∧ reads [0xE8] = some .inx
    ∧ reads [0xC8] = some .iny
    ∧ reads [0xC6, 0x9A] = some (.decZp 0x9A)
    ∧ reads [0xCE, 0x9A, 0x02] = some (.decAbs 0x029A)
    ∧ reads [0xD6, 0x9A] = some (.decZpx 0x9A)
    ∧ reads [0xDE, 0x9A, 0x02] = some (.decAbx 0x029A)
    ∧ reads [0xCA] = some .dex
    ∧ reads [0x88] = some .dey := by decide

/-- The words of 42_logic_shift.md, written out from spec/opcode_table.json: opcode byte, then the operand byte or the
low and the high operand byte (30_encoding.md R71, R75). -/
theorem test_decode_logic :
    reads [0x21, 0x9A] = some (.andIzx 0x9A)
    ∧ reads [0x25, 0x9A] = some (.andZp 0x9A)
    ∧ reads [0x29, 0x9A] = some (.andImm 0x9A)
    ∧ reads [0x2D, 0x9A, 0x02] = some (.andAbs 0x029A)
    ∧ reads [0x31, 0x9A] = some (.andIzy 0x9A)
    ∧ reads [0x35, 0x9A] = some (.andZpx 0x9A)
    ∧ reads [0x39, 0x9A, 0x02] = some (.andAby 0x029A)
    ∧ reads [0x3D, 0x9A, 0x02] = some (.andAbx 0x029A)
    ∧ reads [0x01, 0x9A] = some (.oraIzx 0x9A)
    ∧ reads [0x05, 0x9A] = some (.oraZp 0x9A)
    ∧ reads [0x09, 0x9A] = some (.oraImm 0x9A)
    ∧ reads [0x0D, 0x9A, 0x02] = some (.oraAbs 0x029A)
    ∧ reads [0x11, 0x9A] = some (.oraIzy 0x9A)
    ∧ reads [0x15, 0x9A] = some (.oraZpx 0x9A)
    ∧ reads [0x19, 0x9A, 0x02] = some (.oraAby 0x029A)
    ∧ reads [0x1D, 0x9A, 0x02] = some (.oraAbx 0x029A)
    ∧ reads [0x41, 0x9A] = some (.eorIzx 0x9A)
    ∧ reads [0x45, 0x9A] = some (.eorZp 0x9A)
    ∧ reads [0x49, 0x9A] = some (.eorImm 0x9A)
    ∧ reads [0x4D, 0x9A, 0x02] = some (.eorAbs 0x029A)
    ∧ reads [0x51, 0x9A] = some (.eorIzy 0x9A)
    ∧ reads [0x55, 0x9A] = some (.eorZpx 0x9A)
    ∧ reads [0x59, 0x9A, 0x02] = some (.eorAby 0x029A)
    ∧ reads [0x5D, 0x9A, 0x02] = some (.eorAbx 0x029A)
    ∧ reads [0x24, 0x9A] = some (.bitZp 0x9A)
    ∧ reads [0x2C, 0x9A, 0x02] = some (.bitAbs 0x029A) := by decide

/-- The words of 42_logic_shift.md, written out from spec/opcode_table.json: opcode byte, then the operand byte or the
low and the high operand byte (30_encoding.md R71, R75). -/
theorem test_decode_shifts :
    reads [0x06, 0x9A] = some (.aslZp 0x9A)
    ∧ reads [0x0A] = some .aslAcc
    ∧ reads [0x0E, 0x9A, 0x02] = some (.aslAbs 0x029A)
    ∧ reads [0x16, 0x9A] = some (.aslZpx 0x9A)
    ∧ reads [0x1E, 0x9A, 0x02] = some (.aslAbx 0x029A)
    ∧ reads [0x46, 0x9A] = some (.lsrZp 0x9A)
    ∧ reads [0x4A] = some .lsrAcc
    ∧ reads [0x4E, 0x9A, 0x02] = some (.lsrAbs 0x029A)
    ∧ reads [0x56, 0x9A] = some (.lsrZpx 0x9A)
    ∧ reads [0x5E, 0x9A, 0x02] = some (.lsrAbx 0x029A)
    ∧ reads [0x26, 0x9A] = some (.rolZp 0x9A)
    ∧ reads [0x2A] = some .rolAcc
    ∧ reads [0x2E, 0x9A, 0x02] = some (.rolAbs 0x029A)
    ∧ reads [0x36, 0x9A] = some (.rolZpx 0x9A)
    ∧ reads [0x3E, 0x9A, 0x02] = some (.rolAbx 0x029A)
    ∧ reads [0x66, 0x9A] = some (.rorZp 0x9A)
    ∧ reads [0x6A] = some .rorAcc
    ∧ reads [0x6E, 0x9A, 0x02] = some (.rorAbs 0x029A)
    ∧ reads [0x76, 0x9A] = some (.rorZpx 0x9A)
    ∧ reads [0x7E, 0x9A, 0x02] = some (.rorAbx 0x029A) := by decide

/-- The words of 43_branches_jumps.md, written out from spec/opcode_table.json: opcode byte, then the operand byte or the
low and the high operand byte (30_encoding.md R71, R75). -/
theorem test_decode_branches_and_jumps :
    reads [0x90, 0x9A] = some (.bcc 0x9A)
    ∧ reads [0xB0, 0x9A] = some (.bcs 0x9A)
    ∧ reads [0xF0, 0x9A] = some (.beq 0x9A)
    ∧ reads [0xD0, 0x9A] = some (.bne 0x9A)
    ∧ reads [0x30, 0x9A] = some (.bmi 0x9A)
    ∧ reads [0x10, 0x9A] = some (.bpl 0x9A)
    ∧ reads [0x50, 0x9A] = some (.bvc 0x9A)
    ∧ reads [0x70, 0x9A] = some (.bvs 0x9A)
    ∧ reads [0x4C, 0x9A, 0x02] = some (.jmpAbs 0x029A)
    ∧ reads [0x6C, 0x9A, 0x02] = some (.jmpInd 0x029A)
    ∧ reads [0x20, 0x9A, 0x02] = some (.jsr 0x029A)
    ∧ reads [0x60] = some .rts := by decide

/-- The words of 44_transfers.md, written out from spec/opcode_table.json: opcode byte, then the operand byte or the
low and the high operand byte (30_encoding.md R71, R75). -/
theorem test_decode_loads :
    reads [0xA1, 0x9A] = some (.ldaIzx 0x9A)
    ∧ reads [0xA5, 0x9A] = some (.ldaZp 0x9A)
    ∧ reads [0xA9, 0x9A] = some (.ldaImm 0x9A)
    ∧ reads [0xAD, 0x9A, 0x02] = some (.ldaAbs 0x029A)
    ∧ reads [0xB1, 0x9A] = some (.ldaIzy 0x9A)
    ∧ reads [0xB5, 0x9A] = some (.ldaZpx 0x9A)
    ∧ reads [0xB9, 0x9A, 0x02] = some (.ldaAby 0x029A)
    ∧ reads [0xBD, 0x9A, 0x02] = some (.ldaAbx 0x029A)
    ∧ reads [0xA2, 0x9A] = some (.ldxImm 0x9A)
    ∧ reads [0xA6, 0x9A] = some (.ldxZp 0x9A)
    ∧ reads [0xAE, 0x9A, 0x02] = some (.ldxAbs 0x029A)
    ∧ reads [0xB6, 0x9A] = some (.ldxZpy 0x9A)
    ∧ reads [0xBE, 0x9A, 0x02] = some (.ldxAby 0x029A)
    ∧ reads [0xA0, 0x9A] = some (.ldyImm 0x9A)
    ∧ reads [0xA4, 0x9A] = some (.ldyZp 0x9A)
    ∧ reads [0xAC, 0x9A, 0x02] = some (.ldyAbs 0x029A)
    ∧ reads [0xB4, 0x9A] = some (.ldyZpx 0x9A)
    ∧ reads [0xBC, 0x9A, 0x02] = some (.ldyAbx 0x029A) := by decide

/-- The words of 44_transfers.md, written out from spec/opcode_table.json: opcode byte, then the operand byte or the
low and the high operand byte (30_encoding.md R71, R75). -/
theorem test_decode_stores_and_transfers :
    reads [0x81, 0x9A] = some (.staIzx 0x9A)
    ∧ reads [0x85, 0x9A] = some (.staZp 0x9A)
    ∧ reads [0x8D, 0x9A, 0x02] = some (.staAbs 0x029A)
    ∧ reads [0x91, 0x9A] = some (.staIzy 0x9A)
    ∧ reads [0x95, 0x9A] = some (.staZpx 0x9A)
    ∧ reads [0x99, 0x9A, 0x02] = some (.staAby 0x029A)
    ∧ reads [0x9D, 0x9A, 0x02] = some (.staAbx 0x029A)
    ∧ reads [0x86, 0x9A] = some (.stxZp 0x9A)
    ∧ reads [0x8E, 0x9A, 0x02] = some (.stxAbs 0x029A)
    ∧ reads [0x96, 0x9A] = some (.stxZpy 0x9A)
    ∧ reads [0x84, 0x9A] = some (.styZp 0x9A)
    ∧ reads [0x8C, 0x9A, 0x02] = some (.styAbs 0x029A)
    ∧ reads [0x94, 0x9A] = some (.styZpx 0x9A)
    ∧ reads [0xAA] = some .tax
    ∧ reads [0xA8] = some .tay
    ∧ reads [0x8A] = some .txa
    ∧ reads [0x98] = some .tya
    ∧ reads [0xBA] = some .tsx
    ∧ reads [0x9A] = some .txs := by decide

/-- The words of 45_stack.md, 46_system.md, written out from spec/opcode_table.json: opcode byte, then the operand byte or the
low and the high operand byte (30_encoding.md R71, R75). -/
theorem test_decode_stack_and_system :
    reads [0x48] = some .pha
    ∧ reads [0x08] = some .php
    ∧ reads [0x68] = some .pla
    ∧ reads [0x28] = some .plp
    ∧ reads [0x00] = some .brk
    ∧ reads [0x40] = some .rti
    ∧ reads [0xEA] = some .nop
    ∧ reads [0x18] = some .clc
    ∧ reads [0x38] = some .sec
    ∧ reads [0x58] = some .cli
    ∧ reads [0x78] = some .sei
    ∧ reads [0xD8] = some .cld
    ∧ reads [0xF8] = some .sed
    ∧ reads [0xB8] = some .clv := by decide

/-- Unimplemented opcode bytes (30_encoding.md R77) and byte lists that are too short. -/
theorem test_decode_unimplemented_and_short :
    decodeBytes [0x02, 0x11] = .ok (.ill 0x02, [0x11])
    ∧ decodeBytes [0xFF] = .ok (.ill 0xFF, [])
    ∧ decodeBytes [] = .error .noOpcode
    ∧ decodeBytes [0xA9] = .error (.missingOperand 0xA9)
    ∧ decodeBytes [0x4C, 0x00] = .error (.missingOperand 0x4C) := ⟨rfl, rfl, rfl, rfl, rfl⟩

/-- Bits are numbered from the opcode byte on: BD FF 20 is $20FFBD; a table row that gives only the opcode byte
leaves the operands zero. -/
theorem test_decodeTableWord :
    decodeTableWord 24 0x20FFBD = some (.ldaAbx 0x20FF)
    ∧ decodeTableWord 16 0x42A9 = some (.ldaImm 0x42)
    ∧ decodeTableWord 8 0x4C = some (.jmpAbs 0x0000)
    ∧ decodeTableWord 8 0x02 = some (.ill 0x02) := by decide

/-- The encoder on one instruction of each length (S4, S10 of 95_test_vectors.md; T172). -/
theorem test_encode :
    encode (.ldaImm 0x42) = [0xA9, 0x42] ∧ encode (.ldaAbx 0x20FF) = [0xBD, 0xFF, 0x20]
    ∧ encode .rts = [0x60] ∧ encode (.ill 0x02) = [0x02] := by decide

/-! ## Single steps, 95_test_vectors.md part 2 -/

/-- T1: ``ADC #$01`` (rule R141). -/
theorem test_adc_signed_overflow :
    regs (start 0x7F 0x00 0x00 0xFD 0x8000 0x24 [0x69, 0x01] [])
      = some ⟨0x80, 0x00, 0x00, 0xFD, 0x8002, 0xE4, 2⟩ := by decide

/-- T6: ``ADC #$01`` (rules R141, R153). -/
theorem test_adc_ignores_decimal :
    regs (start 0x09 0x00 0x00 0xFD 0x8000 0x2C [0x69, 0x01] [])
      = some ⟨0x0A, 0x00, 0x00, 0xFD, 0x8002, 0x2C, 2⟩ := by decide

/-- T8: ``ADC $02FF,X`` (rules R141, R113). -/
theorem test_adc_abx_page_crossing :
    regs (start 0x01 0x01 0x00 0xFD 0x8000 0x24 [0x7D, 0xFF, 0x02] [(0x0300, 0x10)])
      = some ⟨0x11, 0x01, 0x00, 0xFD, 0x8003, 0x24, 5⟩ := by decide

/-- T9: ``ADC $02FF,X`` (rules R141, R113). -/
theorem test_adc_abx_same_page :
    regs (start 0x01 0x00 0x00 0xFD 0x8000 0x24 [0x7D, 0xFF, 0x02] [(0x02FF, 0x10)])
      = some ⟨0x11, 0x00, 0x00, 0xFD, 0x8003, 0x24, 4⟩ := by decide

/-- T11: ``SBC #$01`` (rule R142). -/
theorem test_sbc_signed_overflow :
    regs (start 0x80 0x00 0x00 0xFD 0x8000 0x25 [0xE9, 0x01] [])
      = some ⟨0x7F, 0x00, 0x00, 0xFD, 0x8002, 0x65, 2⟩ := by decide

/-- T12: ``SBC #$00`` (rule R142). -/
theorem test_sbc_borrow_in_and_out :
    regs (start 0x00 0x00 0x00 0xFD 0x8000 0x24 [0xE9, 0x00] [])
      = some ⟨0xFF, 0x00, 0x00, 0xFD, 0x8002, 0xA4, 2⟩ := by decide

/-- T17: ``CMP #$10`` (rule R143). -/
theorem test_cmp_below :
    regs (start 0x0F 0x00 0x00 0xFD 0x8000 0x25 [0xC9, 0x10] [])
      = some ⟨0x0F, 0x00, 0x00, 0xFD, 0x8002, 0xA4, 2⟩ := by decide

/-- T20: ``CMP #$00`` (rule R143). -/
theorem test_cmp_above_unsigned :
    regs (start 0x80 0x00 0x00 0xFD 0x8000 0x24 [0xC9, 0x00] [])
      = some ⟨0x80, 0x00, 0x00, 0xFD, 0x8002, 0xA5, 2⟩ := by decide

/-- T21: ``CPX $10`` (rules R144, R109). -/
theorem test_cpx_equal :
    regs (start 0x00 0x05 0x00 0xFD 0x8000 0x24 [0xE4, 0x10] [(0x0010, 0x05)])
      = some ⟨0x00, 0x05, 0x00, 0xFD, 0x8002, 0x27, 3⟩ := by decide

/-- T22: ``CPY #$01`` (rule R145). -/
theorem test_cpy_below :
    regs (start 0x00 0x00 0x00 0xFD 0x8000 0x24 [0xC0, 0x01] [])
      = some ⟨0x00, 0x00, 0x00, 0xFD, 0x8002, 0xA4, 2⟩ := by decide

/-- T23: ``INC $10`` (rule R146). -/
theorem test_inc_wraps :
    regs (start 0x00 0x00 0x00 0xFD 0x8000 0x25 [0xE6, 0x10] [(0x0010, 0xFF)])
      = some ⟨0x00, 0x00, 0x00, 0xFD, 0x8002, 0x27, 5⟩
    ∧ bytes (start 0x00 0x00 0x00 0xFD 0x8000 0x25 [0xE6, 0x10] [(0x0010, 0xFF)]) [0x0010] = some [0x00] := by decide

/-- T25: ``INC $02FF,X`` (rules R146, R113, R76). -/
theorem test_inc_abx_fixed_cycles :
    regs (start 0x00 0x01 0x00 0xFD 0x8000 0x24 [0xFE, 0xFF, 0x02] [(0x0300, 0x00)])
      = some ⟨0x00, 0x01, 0x00, 0xFD, 0x8003, 0x24, 7⟩
    ∧ bytes (start 0x00 0x01 0x00 0xFD 0x8000 0x24 [0xFE, 0xFF, 0x02] [(0x0300, 0x00)]) [0x0300] = some [0x01] := by decide

/-- T26: ``DEC $10`` (rule R149). -/
theorem test_dec_wraps :
    regs (start 0x00 0x00 0x00 0xFD 0x8000 0x24 [0xC6, 0x10] [(0x0010, 0x00)])
      = some ⟨0x00, 0x00, 0x00, 0xFD, 0x8002, 0xA4, 5⟩
    ∧ bytes (start 0x00 0x00 0x00 0xFD 0x8000 0x24 [0xC6, 0x10] [(0x0010, 0x00)]) [0x0010] = some [0xFF] := by decide

/-- T28: ``INX`` (rule R147). -/
theorem test_inx_wraps :
    regs (start 0x00 0xFF 0x00 0xFD 0x8000 0x24 [0xE8] [])
      = some ⟨0x00, 0x00, 0x00, 0xFD, 0x8001, 0x26, 2⟩ := by decide

/-- T29: ``INY`` (rule R148). -/
theorem test_iny_to_negative :
    regs (start 0x00 0x00 0x7F 0xFD 0x8000 0x24 [0xC8] [])
      = some ⟨0x00, 0x00, 0x80, 0xFD, 0x8001, 0xA4, 2⟩ := by decide

/-- T30: ``DEX`` (rule R150). -/
theorem test_dex_wraps :
    regs (start 0x00 0x00 0x00 0xFD 0x8000 0x24 [0xCA] [])
      = some ⟨0x00, 0xFF, 0x00, 0xFD, 0x8001, 0xA4, 2⟩ := by decide

/-- T31: ``DEY`` (rule R151). -/
theorem test_dey_to_zero :
    regs (start 0x00 0x00 0x01 0xFD 0x8000 0x24 [0x88] [])
      = some ⟨0x00, 0x00, 0x00, 0xFD, 0x8001, 0x26, 2⟩ := by decide

/-- T41: ``AND #$80`` (rule R161). -/
theorem test_and_negative :
    regs (start 0xFF 0x00 0x00 0xFD 0x8000 0x24 [0x29, 0x80] [])
      = some ⟨0x80, 0x00, 0x00, 0xFD, 0x8002, 0xA4, 2⟩ := by decide

/-- T43: ``ORA #$80`` (rule R162). -/
theorem test_ora_negative :
    regs (start 0x01 0x00 0x00 0xFD 0x8000 0x24 [0x09, 0x80] [])
      = some ⟨0x81, 0x00, 0x00, 0xFD, 0x8002, 0xA4, 2⟩ := by decide

/-- T45: ``EOR #$FF`` (rule R163). -/
theorem test_eor_negative :
    regs (start 0x55 0x00 0x00 0xFD 0x8000 0x24 [0x49, 0xFF] [])
      = some ⟨0xAA, 0x00, 0x00, 0xFD, 0x8002, 0xA4, 2⟩ := by decide

/-- T46: ``BIT $10`` (rule R164). -/
theorem test_bit_copies_set_bits :
    regs (start 0x00 0x00 0x00 0xFD 0x8000 0x24 [0x24, 0x10] [(0x0010, 0xC0)])
      = some ⟨0x00, 0x00, 0x00, 0xFD, 0x8002, 0xE6, 3⟩ := by decide

/-- T47: ``BIT $10`` (rule R164). -/
theorem test_bit_clears_all_three :
    regs (start 0xFF 0x00 0x00 0xFD 0x8000 0xE6 [0x24, 0x10] [(0x0010, 0x3F)])
      = some ⟨0xFF, 0x00, 0x00, 0xFD, 0x8002, 0x24, 3⟩ := by decide

/-- T49: ``ASL A`` (rules R165, R107). -/
theorem test_asl_acc_carry_out :
    regs (start 0x80 0x00 0x00 0xFD 0x8000 0x24 [0x0A] [])
      = some ⟨0x00, 0x00, 0x00, 0xFD, 0x8001, 0x27, 2⟩ := by decide

/-- T51: ``ASL $10`` (rule R165). -/
theorem test_asl_zp :
    regs (start 0x00 0x00 0x00 0xFD 0x8000 0x24 [0x06, 0x10] [(0x0010, 0x81)])
      = some ⟨0x00, 0x00, 0x00, 0xFD, 0x8002, 0x25, 5⟩
    ∧ bytes (start 0x00 0x00 0x00 0xFD 0x8000 0x24 [0x06, 0x10] [(0x0010, 0x81)]) [0x0010] = some [0x02] := by decide

/-- T52: ``LSR A`` (rule R166). -/
theorem test_lsr_acc_to_zero :
    regs (start 0x01 0x00 0x00 0xFD 0x8000 0xA4 [0x4A] [])
      = some ⟨0x00, 0x00, 0x00, 0xFD, 0x8001, 0x27, 2⟩ := by decide

/-- T53: ``LSR $10,X`` (rules R166, R110). -/
theorem test_lsr_zpx_index_wraps :
    regs (start 0x00 0xF0 0x00 0xFD 0x8000 0x25 [0x56, 0x10] [(0x0000, 0xFE)])
      = some ⟨0x00, 0xF0, 0x00, 0xFD, 0x8002, 0x24, 6⟩
    ∧ bytes (start 0x00 0xF0 0x00 0xFD 0x8000 0x25 [0x56, 0x10] [(0x0000, 0xFE)]) [0x0000] = some [0x7F] := by decide

/-- T54: ``ROL A`` (rule R167). -/
theorem test_rol_acc_carry_in_and_out :
    regs (start 0x80 0x00 0x00 0xFD 0x8000 0x25 [0x2A] [])
      = some ⟨0x01, 0x00, 0x00, 0xFD, 0x8001, 0x25, 2⟩ := by decide

/-- T58: ``ROR A`` (rule R168). -/
theorem test_ror_acc_carry_in :
    regs (start 0x00 0x00 0x00 0xFD 0x8000 0x25 [0x6A] [])
      = some ⟨0x80, 0x00, 0x00, 0xFD, 0x8001, 0xA4, 2⟩ := by decide

/-- T59: ``ROR $02FF,X`` (rules R168, R113, R76). -/
theorem test_ror_abx_fixed_cycles :
    regs (start 0x00 0x01 0x00 0xFD 0x8000 0x25 [0x7E, 0xFF, 0x02] [(0x0300, 0x02)])
      = some ⟨0x00, 0x01, 0x00, 0xFD, 0x8003, 0xA4, 7⟩
    ∧ bytes (start 0x00 0x01 0x00 0xFD 0x8000 0x25 [0x7E, 0xFF, 0x02] [(0x0300, 0x02)]) [0x0300] = some [0x81] := by decide

/-- T70: ``BNE +4`` (rules R184, R180). -/
theorem test_bne_not_taken :
    regs (start 0x00 0x00 0x00 0xFD 0x8000 0x26 [0xD0, 0x04] [])
      = some ⟨0x00, 0x00, 0x00, 0xFD, 0x8002, 0x26, 2⟩ := by decide

/-- T79: ``BNE +2 at $FFFD`` (rules R184, R180, R11). -/
theorem test_bne_taken_pc_wraps :
    regs (start 0x00 0x00 0x00 0xFD 0xFFFD 0x24 [0xD0, 0x02] [])
      = some ⟨0x00, 0x00, 0x00, 0xFD, 0x0001, 0x24, 4⟩ := by decide

/-- T72: ``BEQ -2 (to itself)`` (rules R183, R180). -/
theorem test_beq_to_itself :
    regs (start 0x00 0x00 0x00 0xFD 0x8000 0x26 [0xF0, 0xFE] [])
      = some ⟨0x00, 0x00, 0x00, 0xFD, 0x8000, 0x26, 3⟩ := by decide

/-- T73: ``BCC +$7F`` (rules R181, R180). -/
theorem test_bcc_taken_page_crossing :
    regs (start 0x00 0x00 0x00 0xFD 0x80F0 0x24 [0x90, 0x7F] [])
      = some ⟨0x00, 0x00, 0x00, 0xFD, 0x8171, 0x24, 4⟩ := by decide

/-- T74: ``BCS -$80`` (rules R182, R180). -/
theorem test_bcs_backward :
    regs (start 0x00 0x00 0x00 0xFD 0x8010 0x25 [0xB0, 0x80] [])
      = some ⟨0x00, 0x00, 0x00, 0xFD, 0x7F92, 0x25, 4⟩ := by decide

/-- T75: ``BPL -1`` (rules R186, R180). -/
theorem test_bpl_page_of_next_instruction :
    regs (start 0x00 0x00 0x00 0xFD 0x80FE 0x24 [0x10, 0xFF] [])
      = some ⟨0x00, 0x00, 0x00, 0xFD, 0x80FF, 0x24, 4⟩ := by decide

/-- T76: ``BMI +0`` (rules R185, R180). -/
theorem test_bmi_zero_displacement :
    regs (start 0x00 0x00 0x00 0xFD 0x8000 0xA4 [0x30, 0x00] [])
      = some ⟨0x00, 0x00, 0x00, 0xFD, 0x8002, 0xA4, 3⟩ := by decide

/-- T77: ``BVC +2`` (rule R187). -/
theorem test_bvc_not_taken :
    regs (start 0x00 0x00 0x00 0xFD 0x8000 0x64 [0x50, 0x02] [])
      = some ⟨0x00, 0x00, 0x00, 0xFD, 0x8002, 0x64, 2⟩ := by decide

/-- T78: ``BVS +2`` (rule R188). -/
theorem test_bvs_taken :
    regs (start 0x00 0x00 0x00 0xFD 0x8000 0x64 [0x70, 0x02] [])
      = some ⟨0x00, 0x00, 0x00, 0xFD, 0x8004, 0x64, 3⟩ := by decide

/-- T80: ``JMP $1234`` (rule R189). -/
theorem test_jmp_absolute :
    regs (start 0x00 0x00 0x00 0xFD 0x8000 0x24 [0x4C, 0x34, 0x12] [])
      = some ⟨0x00, 0x00, 0x00, 0xFD, 0x1234, 0x24, 3⟩ := by decide

/-- T81: ``JMP ($0200)`` (rules R190, R115). -/
theorem test_jmp_indirect :
    regs (start 0x00 0x00 0x00 0xFD 0x8000 0x24 [0x6C, 0x00, 0x02] [(0x0200, 0x34), (0x0201, 0x12)])
      = some ⟨0x00, 0x00, 0x00, 0xFD, 0x1234, 0x24, 5⟩ := by decide

/-- T82: ``JMP ($02FF)`` (rules R190, R115). -/
theorem test_jmp_indirect_page_wrap :
    regs (start 0x00 0x00 0x00 0xFD 0x8000 0x24 [0x6C, 0xFF, 0x02] [(0x02FF, 0x34), (0x0200, 0x12), (0x0300, 0x56)])
      = some ⟨0x00, 0x00, 0x00, 0xFD, 0x1234, 0x24, 5⟩ := by decide

/-- T83: ``JSR $1234`` (rule R191). -/
theorem test_jsr :
    regs (start 0x00 0x00 0x00 0xFD 0x8000 0x24 [0x20, 0x34, 0x12] [])
      = some ⟨0x00, 0x00, 0x00, 0xFB, 0x1234, 0x24, 6⟩
    ∧ bytes (start 0x00 0x00 0x00 0xFD 0x8000 0x24 [0x20, 0x34, 0x12] []) [0x01FC, 0x01FD] = some [0x02, 0x80] := by decide

/-- T84: ``JSR $1234`` (rules R191, R12). -/
theorem test_jsr_stack_wraps :
    regs (start 0x00 0x00 0x00 0x00 0x8000 0x24 [0x20, 0x34, 0x12] [])
      = some ⟨0x00, 0x00, 0x00, 0xFE, 0x1234, 0x24, 6⟩
    ∧ bytes (start 0x00 0x00 0x00 0x00 0x8000 0x24 [0x20, 0x34, 0x12] []) [0x0100, 0x01FF] = some [0x80, 0x02] := by decide

/-- T86: ``RTS`` (rules R192, R11). -/
theorem test_rts_pc_wraps :
    regs (start 0x00 0x00 0x00 0xFD 0x8000 0x24 [0x60] [(0x01FE, 0xFF), (0x01FF, 0xFF)])
      = some ⟨0x00, 0x00, 0x00, 0xFF, 0x0000, 0x24, 6⟩ := by decide

/-- T87: ``RTS`` (rules R192, R12). -/
theorem test_rts_stack_wraps :
    regs (start 0x00 0x00 0x00 0xFE 0x8000 0x24 [0x60] [(0x0100, 0x80), (0x01FF, 0x33)])
      = some ⟨0x00, 0x00, 0x00, 0x00, 0x8034, 0x24, 6⟩ := by decide

/-- T101: ``LDA #$00`` (rule R201). -/
theorem test_lda_zero :
    regs (start 0x55 0x00 0x00 0xFD 0x8000 0x24 [0xA9, 0x00] [])
      = some ⟨0x00, 0x00, 0x00, 0xFD, 0x8002, 0x26, 2⟩ := by decide

/-- T102: ``LDA #$80`` (rule R201). -/
theorem test_lda_negative :
    regs (start 0x00 0x00 0x00 0xFD 0x8000 0x26 [0xA9, 0x80] [])
      = some ⟨0x80, 0x00, 0x00, 0xFD, 0x8002, 0xA4, 2⟩ := by decide

/-- T103: ``LDA $02FF,X`` (rules R201, R113). -/
theorem test_lda_abx_page_crossing :
    regs (start 0x00 0x01 0x00 0xFD 0x8000 0x24 [0xBD, 0xFF, 0x02] [(0x0300, 0x77)])
      = some ⟨0x77, 0x01, 0x00, 0xFD, 0x8003, 0x24, 5⟩ := by decide

/-- T112: ``LDA $FFFF,X`` (rules R201, R113). -/
theorem test_lda_abx_address_wraps :
    regs (start 0x00 0x01 0x00 0xFD 0x8000 0x24 [0xBD, 0xFF, 0xFF] [(0x0000, 0x21)])
      = some ⟨0x21, 0x01, 0x00, 0xFD, 0x8003, 0x24, 5⟩ := by decide

/-- T105: ``LDA $FF,X`` (rules R201, R110). -/
theorem test_lda_zpx_index_wraps :
    regs (start 0x00 0x02 0x00 0xFD 0x8000 0x24 [0xB5, 0xFF] [(0x0001, 0x11), (0x0101, 0x22)])
      = some ⟨0x11, 0x02, 0x00, 0xFD, 0x8002, 0x24, 4⟩ := by decide

/-- T106: ``LDX $F0,Y`` (rules R202, R111). -/
theorem test_ldx_zpy_index_wraps :
    regs (start 0x00 0x00 0x1F 0xFD 0x8000 0x24 [0xB6, 0xF0] [(0x000F, 0x99)])
      = some ⟨0x00, 0x99, 0x1F, 0xFD, 0x8002, 0xA4, 4⟩ := by decide

/-- T107: ``LDA ($FE,X)`` (rules R201, R116). -/
theorem test_lda_izx_pointer_wraps :
    regs (start 0x00 0x01 0x00 0xFD 0x8000 0x24 [0xA1, 0xFE] [(0x00FF, 0x00), (0x0000, 0x03), (0x0300, 0x5A)])
      = some ⟨0x5A, 0x01, 0x00, 0xFD, 0x8002, 0x24, 6⟩ := by decide

/-- T108: ``LDA ($10),Y`` (rules R201, R117). -/
theorem test_lda_izy_page_crossing :
    regs (start 0x00 0x00 0x01 0xFD 0x8000 0x24 [0xB1, 0x10] [(0x0010, 0xFF), (0x0011, 0x02), (0x0300, 0x66)])
      = some ⟨0x66, 0x00, 0x01, 0xFD, 0x8002, 0x24, 6⟩ := by decide

/-- T110: ``LDA ($FF),Y`` (rules R201, R117). -/
theorem test_lda_izy_pointer_wraps :
    regs (start 0x00 0x00 0x00 0xFD 0x8000 0x24 [0xB1, 0xFF] [(0x00FF, 0x00), (0x0000, 0x04), (0x0100, 0x07), (0x0400, 0xC3)])
      = some ⟨0xC3, 0x00, 0x00, 0xFD, 0x8002, 0xA4, 5⟩ := by decide

/-- T111: ``LDY $1800`` (rules R203, R53). -/
theorem test_ldy_from_mirror :
    regs (start 0x00 0x00 0x00 0xFD 0x8000 0x24 [0xAC, 0x00, 0x18] [(0x0000, 0x7E)])
      = some ⟨0x00, 0x00, 0x7E, 0xFD, 0x8003, 0x24, 4⟩ := by decide

/-- T116: ``STA $0800`` (rules R204, R53, R54). -/
theorem test_sta_to_mirror :
    regs (start 0xAB 0x00 0x00 0xFD 0x8000 0x24 [0x8D, 0x00, 0x08] [])
      = some ⟨0xAB, 0x00, 0x00, 0xFD, 0x8003, 0x24, 4⟩
    ∧ bytes (start 0xAB 0x00 0x00 0xFD 0x8000 0x24 [0x8D, 0x00, 0x08] []) [0x0000] = some [0xAB] := by decide

/-- T117: ``STA $9000`` (rules R204, R59). -/
theorem test_sta_to_rom_discarded :
    regs (start 0x55 0x00 0x00 0xFD 0x8000 0x24 [0x8D, 0x00, 0x90] [(0x9000, 0xEA)])
      = some ⟨0x55, 0x00, 0x00, 0xFD, 0x8003, 0x24, 4⟩ := by decide

/-- T114: ``STA $02FF,X`` (rules R204, R113, R76). -/
theorem test_sta_abx_fixed_cycles :
    regs (start 0x12 0x01 0x00 0xFD 0x8000 0x24 [0x9D, 0xFF, 0x02] [])
      = some ⟨0x12, 0x01, 0x00, 0xFD, 0x8003, 0x24, 5⟩
    ∧ bytes (start 0x12 0x01 0x00 0xFD 0x8000 0x24 [0x9D, 0xFF, 0x02] []) [0x0300] = some [0x12] := by decide

/-- T115: ``STA ($10),Y`` (rules R204, R117, R76). -/
theorem test_sta_izy_fixed_cycles :
    regs (start 0x34 0x00 0x01 0xFD 0x8000 0x24 [0x91, 0x10] [(0x0010, 0xFF), (0x0011, 0x02)])
      = some ⟨0x34, 0x00, 0x01, 0xFD, 0x8002, 0x24, 6⟩
    ∧ bytes (start 0x34 0x00 0x01 0xFD 0x8000 0x24 [0x91, 0x10] [(0x0010, 0xFF), (0x0011, 0x02)]) [0x0300] = some [0x34] := by decide

/-- T118: ``STX $10,Y`` (rules R205, R111). -/
theorem test_stx_zpy_index_wraps :
    regs (start 0x00 0x77 0xF8 0xFD 0x8000 0x24 [0x96, 0x10] [])
      = some ⟨0x00, 0x77, 0xF8, 0xFD, 0x8002, 0x24, 4⟩
    ∧ bytes (start 0x00 0x77 0xF8 0xFD 0x8000 0x24 [0x96, 0x10] []) [0x0008] = some [0x77] := by decide

/-- T119: ``STY $6000`` (rules R206, R58). -/
theorem test_sty_to_prg_ram :
    regs (start 0x00 0x00 0x01 0xFD 0x8000 0x24 [0x8C, 0x00, 0x60] [])
      = some ⟨0x00, 0x00, 0x01, 0xFD, 0x8003, 0x24, 4⟩
    ∧ bytes (start 0x00 0x00 0x01 0xFD 0x8000 0x24 [0x8C, 0x00, 0x60] []) [0x6000] = some [0x01] := by decide

/-- T120: ``TAX`` (rule R207). -/
theorem test_tax :
    regs (start 0x80 0x01 0x00 0xFD 0x8000 0x24 [0xAA] [])
      = some ⟨0x80, 0x80, 0x00, 0xFD, 0x8001, 0xA4, 2⟩ := by decide

/-- T121: ``TAY`` (rule R208). -/
theorem test_tay :
    regs (start 0x00 0x00 0x01 0xFD 0x8000 0x24 [0xA8] [])
      = some ⟨0x00, 0x00, 0x00, 0xFD, 0x8001, 0x26, 2⟩ := by decide

/-- T122: ``TXA`` (rule R209). -/
theorem test_txa :
    regs (start 0xFF 0x7F 0x00 0xFD 0x8000 0xA4 [0x8A] [])
      = some ⟨0x7F, 0x7F, 0x00, 0xFD, 0x8001, 0x24, 2⟩ := by decide

/-- T123: ``TYA`` (rule R210). -/
theorem test_tya :
    regs (start 0xFF 0x00 0x00 0xFD 0x8000 0xA4 [0x98] [])
      = some ⟨0x00, 0x00, 0x00, 0xFD, 0x8001, 0x26, 2⟩ := by decide

/-- T124: ``TSX`` (rule R211). -/
theorem test_tsx_sets_flags :
    regs (start 0x00 0x00 0x00 0xFD 0x8000 0x24 [0xBA] [])
      = some ⟨0x00, 0xFD, 0x00, 0xFD, 0x8001, 0xA4, 2⟩ := by decide

/-- T125: ``TXS`` (rule R212). -/
theorem test_txs_sets_no_flag :
    regs (start 0x00 0x00 0x00 0xFD 0x8000 0x24 [0x9A] [])
      = some ⟨0x00, 0x00, 0x00, 0x00, 0x8001, 0x24, 2⟩ := by decide

/-- T140: ``PHA`` (rules R221, R12). -/
theorem test_pha_stack_wraps :
    regs (start 0x42 0x00 0x00 0x00 0x8000 0x24 [0x48] [])
      = some ⟨0x42, 0x00, 0x00, 0xFF, 0x8001, 0x24, 3⟩
    ∧ bytes (start 0x42 0x00 0x00 0x00 0x8000 0x24 [0x48] []) [0x0100] = some [0x42] := by decide

/-- T142: ``PHP`` (rules R222, R18). -/
theorem test_php_sets_break :
    regs (start 0x00 0x00 0x00 0xFD 0x8000 0x24 [0x08] [])
      = some ⟨0x00, 0x00, 0x00, 0xFC, 0x8001, 0x24, 3⟩
    ∧ bytes (start 0x00 0x00 0x00 0xFD 0x8000 0x24 [0x08] []) [0x01FD] = some [0x34] := by decide

/-- T143: ``PHP`` (rules R222, R18). -/
theorem test_php_all_flags :
    regs (start 0x00 0x00 0x00 0xFD 0x8000 0xEF [0x08] [])
      = some ⟨0x00, 0x00, 0x00, 0xFC, 0x8001, 0xEF, 3⟩
    ∧ bytes (start 0x00 0x00 0x00 0xFD 0x8000 0xEF [0x08] []) [0x01FD] = some [0xFF] := by decide

/-- T145: ``PLA`` (rules R223, R12). -/
theorem test_pla_stack_wraps :
    regs (start 0x00 0x00 0x00 0xFF 0x8000 0x24 [0x68] [(0x0100, 0x80)])
      = some ⟨0x80, 0x00, 0x00, 0x00, 0x8001, 0xA4, 4⟩ := by decide

/-- T146: ``PLP`` (rules R224, R19). -/
theorem test_plp_ignores_break :
    regs (start 0x00 0x00 0x00 0xFD 0x8000 0x24 [0x28] [(0x01FE, 0xFF)])
      = some ⟨0x00, 0x00, 0x00, 0xFE, 0x8001, 0xEF, 4⟩ := by decide

/-- T147: ``PLP`` (rules R224, R19). -/
theorem test_plp_clears_all :
    regs (start 0x00 0x00 0x00 0xFD 0x8000 0xEF [0x28] [(0x01FE, 0x00)])
      = some ⟨0x00, 0x00, 0x00, 0xFE, 0x8001, 0x20, 4⟩ := by decide

/-- T160: ``BRK`` (rule R231). -/
theorem test_brk :
    regs (start 0x00 0x00 0x00 0xFD 0x8000 0x20 [0x00, 0xEA] [(0xFFFE, 0x00), (0xFFFF, 0x90)])
      = some ⟨0x00, 0x00, 0x00, 0xFA, 0x9000, 0x24, 7⟩
    ∧ bytes (start 0x00 0x00 0x00 0xFD 0x8000 0x20 [0x00, 0xEA] [(0xFFFE, 0x00), (0xFFFF, 0x90)]) [0x01FB, 0x01FC, 0x01FD] = some [0x30, 0x02, 0x80] := by decide

/-- T161: ``BRK`` (rule R231). -/
theorem test_brk_stack_wraps_and_keeps_d :
    regs (start 0x00 0x00 0x00 0x01 0x8000 0xEF [0x00, 0xEA] [(0xFFFE, 0x00), (0xFFFF, 0x90)])
      = some ⟨0x00, 0x00, 0x00, 0xFE, 0x9000, 0xEF, 7⟩
    ∧ bytes (start 0x00 0x00 0x00 0x01 0x8000 0xEF [0x00, 0xEA] [(0xFFFE, 0x00), (0xFFFF, 0x90)]) [0x0100, 0x0101, 0x01FF] = some [0x02, 0x80, 0xFF] := by decide

/-- T162: ``RTI`` (rule R232). -/
theorem test_rti :
    regs (start 0x00 0x00 0x00 0xFA 0x9000 0x24 [0x40] [(0x01FB, 0x30), (0x01FC, 0x02), (0x01FD, 0x80)])
      = some ⟨0x00, 0x00, 0x00, 0xFD, 0x8002, 0x20, 6⟩ := by decide

/-- T163: ``RTI`` (rule R232). -/
theorem test_rti_stack_wraps :
    regs (start 0x00 0x00 0x00 0xFD 0x9000 0x24 [0x40] [(0x01FE, 0xC3), (0x01FF, 0x34), (0x0100, 0x12)])
      = some ⟨0x00, 0x00, 0x00, 0x00, 0x1234, 0xE3, 6⟩ := by decide

/-- T164: ``NOP`` (rule R233). -/
theorem test_nop :
    regs (start 0x01 0x02 0x03 0xFD 0x8000 0xE7 [0xEA] [])
      = some ⟨0x01, 0x02, 0x03, 0xFD, 0x8001, 0xE7, 2⟩ := by decide

/-- T165: ``CLC`` (rule R234). -/
theorem test_clc :
    regs (start 0x00 0x00 0x00 0xFD 0x8000 0xEF [0x18] [])
      = some ⟨0x00, 0x00, 0x00, 0xFD, 0x8001, 0xEE, 2⟩ := by decide

/-- T166: ``SEC`` (rule R235). -/
theorem test_sec :
    regs (start 0x00 0x00 0x00 0xFD 0x8000 0x20 [0x38] [])
      = some ⟨0x00, 0x00, 0x00, 0xFD, 0x8001, 0x21, 2⟩ := by decide

/-- T167: ``CLI`` (rule R236). -/
theorem test_cli :
    regs (start 0x00 0x00 0x00 0xFD 0x8000 0xEF [0x58] [])
      = some ⟨0x00, 0x00, 0x00, 0xFD, 0x8001, 0xEB, 2⟩ := by decide

/-- T168: ``SEI`` (rule R237). -/
theorem test_sei :
    regs (start 0x00 0x00 0x00 0xFD 0x8000 0x20 [0x78] [])
      = some ⟨0x00, 0x00, 0x00, 0xFD, 0x8001, 0x24, 2⟩ := by decide

/-- T169: ``CLD`` (rule R238). -/
theorem test_cld :
    regs (start 0x00 0x00 0x00 0xFD 0x8000 0xEF [0xD8] [])
      = some ⟨0x00, 0x00, 0x00, 0xFD, 0x8001, 0xE7, 2⟩ := by decide

/-- T170: ``SED`` (rule R239). -/
theorem test_sed :
    regs (start 0x00 0x00 0x00 0xFD 0x8000 0x20 [0xF8] [])
      = some ⟨0x00, 0x00, 0x00, 0xFD, 0x8001, 0x28, 2⟩ := by decide

/-- T171: ``CLV`` (rule R240). -/
theorem test_clv :
    regs (start 0x00 0x00 0x00 0xFD 0x8000 0xEF [0xB8] [])
      = some ⟨0x00, 0x00, 0x00, 0xFD, 0x8001, 0xAF, 2⟩ := by decide

/-- T172: ``(illegal $02)`` (rules R241, R250). -/
theorem test_ill_02_faults :
    stops (start 0x01 0x02 0x03 0xFD 0x8000 0x24 [0x02] []) = some (.unimplementedOpcode 0x02) := by decide

/-- T173: ``(illegal $EB)`` (rules R241, R250). -/
theorem test_ill_eb_faults :
    stops (start 0x10 0x00 0x00 0xFD 0x8000 0x25 [0xEB, 0x01] []) = some (.unimplementedOpcode 0xEB) := by decide

/-! ## Interrupts, reset, the address map, the host's actions -/

/-- The vectors of 95_test_vectors.md 2.8. -/
def vectors : List (Word × Byte) :=
  [(0xFFFA, 0x00), (0xFFFB, 0xA0), (0xFFFC, 0x00), (0xFFFD, 0x80), (0xFFFE, 0x00), (0xFFFF, 0x90)]

/-- The latches after one step that answers a next state: `nmi_pending`, `irq_pending`. -/
def latches (s : State) : Option (Bool × Bool) :=
  match step s with
  | .next t => some (t.nmiPending, t.irqPending)
  | .fault _ => none
  | .refused _ => none

/-- I1, step 1: NMI at $8001 with P = $20. -/
def nmiState : State := triggerNmi (start 0x00 0x00 0x00 0xFD 0x8001 0x20 [0xEA] vectors)

/-- I2, step 2: IRQ at $8002 with P = $20. -/
def irqState : State := triggerIrq (start 0x00 0x00 0x00 0xFD 0x8002 0x20 [0xEA] vectors)

/-- I2, step 0: IRQ pending at $8000 with P = $24. -/
def maskedState : State := triggerIrq (start 0x00 0x00 0x00 0xFD 0x8000 0x24 [0xEA] vectors)

/-- I1, step 1. -/
theorem test_nmi_service :
    regs nmiState = some ⟨0x00, 0x00, 0x00, 0xFA, 0xA000, 0x24, 7⟩
    ∧ bytes nmiState [0x01FD, 0x01FC, 0x01FB] = some [0x80, 0x01, 0x20]
    ∧ latches nmiState = some (false, false) := by decide

/-- I2, step 2. -/
theorem test_irq_service :
    regs irqState = some ⟨0x00, 0x00, 0x00, 0xFA, 0x9000, 0x24, 7⟩
    ∧ bytes irqState [0x01FD, 0x01FC, 0x01FB] = some [0x80, 0x02, 0x20]
    ∧ latches irqState = some (false, false) := by decide

/-- I2, step 0: a masked request stays pending and the NOP runs. -/
theorem test_irq_masked :
    regs maskedState = some ⟨0x00, 0x00, 0x00, 0xFD, 0x8001, 0x24, 2⟩
    ∧ latches maskedState = some (false, true) := by decide

/-- I3, step 0: NMI first, the IRQ stays pending. -/
theorem test_nmi_before_irq :
    regs (triggerIrq nmiState) = some ⟨0x00, 0x00, 0x00, 0xFA, 0xA000, 0x24, 7⟩
    ∧ latches (triggerIrq nmiState) = some (false, true) := by decide

/-- I4. -/
theorem test_reset :
    let s : State :=
      triggerIrq (triggerNmi (start 0x55 0x66 0x77 0x12 0x4444 0xEB [] [(0xFFFC, 0x34), (0xFFFD, 0x12)]))
    let t := hostReset { s with cycles := 1234 }
    (t.a, t.x, t.y, t.sp) = (0x00, 0x00, 0x00, 0xFD) ∧ (t.pc, t.p.asByte) = (0x1234, 0x24)
    ∧ (t.nmiPending, t.irqPending, t.cycles) = (false, false, 0) ∧ t.mem = s.mem
    ∧ t.bus = [.read 0xFFFC 0x34, .read 0xFFFD 0x12] := by decide

/-- A1 to A11: regions and canonical addresses. -/
theorem test_address_map :
    (canon 0x1FFF, canon 0x0800, canon 0x1800) = (0x07FF, 0x0000, 0x0000)
    ∧ (canon 0x2008, canon 0x3FFF, canon 0x2100, canon 0x4017) = (0x2000, 0x2007, 0x2000, 0x4017)
    ∧ [0x1FFF, 0x2000, 0x3FFF, 0x4000, 0x4017, 0x4018, 0x401F, 0x4020].map region
        = [.ram, .ppu, .ppu, .apu, .apu, .apuTest, .apuTest, .unmapped]
    ∧ [0x5FFF, 0x6000, 0x7FFF, 0x8000, 0xFFFF].map region = [.unmapped, .prgRam, .prgRam, .prgRom, .prgRom] := by
  decide

/-- A12 and A13. -/
theorem test_load_program_at_the_top :
    (∃ t, loadProgram [0x11, 0x22] 0xFFFE State.reset = .ok t ∧ t.stored 0xFFFE = 0x11 ∧ t.stored 0xFFFF = 0x22)
    ∧ loadProgram [0x11, 0x22, 0x33] 0xFFFE State.reset = .error .programTooLarge :=
  ⟨⟨_, rfl, by decide, by decide⟩, rfl⟩

/-- S10: only PC and the cycles are determined, the byte read is a free value. -/
theorem test_lda_from_stub_register_page_crossing :
    let s (x : Byte) : State := start 0x00 x 0x00 0xFD 0x8000 0x24 [0xBD, 0xFF, 0x20] []
    (regs (s 0x01)).map (fun r => (r.pc, r.cycles)) = some (0x8003, 5)
    ∧ (regs (s 0x00)).map (fun r => (r.pc, r.cycles)) = some (0x8003, 4) := by decide

/-- A7: the byte that a read of a stub register yields is the next draw, whatever it is (20_memory.md R56). -/
theorem test_stub_read_is_a_draw :
    (memRead 0x4017 State.reset).1 = Config.draw 0 ∧ (memRead 0x4017 State.reset).2.draws = 1 := ⟨rfl, rfl⟩

/-- Transactions of `INC $02FF,X` (T25) in the order of 40_step_and_addressing.md R120: the fetch, then one read
and one write of ea. -/
theorem test_transactions_of_inc_abx :
    let s : State := start 0x00 0x01 0x00 0xFD 0x8000 0x24 [0xFE, 0xFF, 0x02] []
    (match step s with | .next t => t.bus | .fault _ => [] | .refused _ => [])
      = [.read 0x8000 0xFE, .read 0x8001 0xFF, .read 0x8002 0x02, .read 0x0300 0x00, .write 0x0300 0x01] := by
  decide

/-- Writing the byte that an unlisted address reads as removes the entry. -/
theorem test_memory_canonical :
    (memWrite 0x0801 0x00 (memWrite 0x0001 0x7E State.reset)).mem = []
    ∧ (memWrite 0x0001 0x05 (memWrite 0x6000 0x06 State.reset)).mem = [(0x0001, 0x05), (0x6000, 0x06)] := by decide

/-- `withFetchWord` puts the instruction where the step after reset fetches it. -/
theorem test_withFetchWord :
    step (State.reset.withFetchWord 16 0x42A9)
      = exec (.ldaImm 0x42) (fetch (State.reset.withFetchWord 16 0x42A9).clearBus).2 := by rfl

/-- `disassemblyAt` on S4, and the accessors (10_state.md R29). -/
theorem test_host_views :
    let s : State := start 0x00 0x00 0x00 0xFD 0x8000 0x24 [0xA9, 0x42] []
    disassemblyAt 0x8000 s = (.lda, .imm 0x42)
    ∧ hostAccess .pc s = .word 0x8000 ∧ hostAccess (.flag .I) s = .bit true
    ∧ hostAccess (.flag .U) s = .bit true := by decide

/-- What a run comes to: whether it ended, and A and PC there. -/
def endOf : RunOutcome → Option (Bool × Byte × Word)
  | .ended s => some (true, s.a, s.pc)
  | .unfinished s => some (false, s.a, s.pc)
  | .faulted _ => none
  | .refused _ => none

/-- R286: `LDA #$42` and a JMP to itself; the run ends at the first boundary at which PC is that of the JMP. -/
theorem test_run_ends_where_stop_holds :
    let s : State := start 0x00 0x00 0x00 0xFD 0x8000 0x24 [0xA9, 0x42, 0x4C, 0x02, 0x80] []
    endOf (runUntil (atAddress 0x8002) 2 s) = some (true, 0x42, 0x8002)
    ∧ endOf (runUntil (atAddress 0x8000) 2 s) = some (true, 0x00, 0x8000)
    ∧ endOf (run 2 s) = some (false, 0x42, 0x8002) := by decide

/-- R286: a faulted step is never an end of run. -/
theorem test_run_faults :
    runUntil (atAddress 0x8001) 2 (start 0x00 0x00 0x00 0xFD 0x8000 0x24 [0x02] [])
      = .faulted (.unimplementedOpcode 0x02) := by rfl

/-! ## Witnesses: states and operands that meet the hypotheses of the statements together -/

/-- A state with `code` at $8000, RAM and PRG RAM not empty, and the vectors of 2.8. -/
def here (code : List Byte) : State := start 0x80 0x01 0x02 0xFD 0x8000 0x24 code ((0x0010, 0xFF) :: vectors)

/-- UnpackKeepsBreak, second clause. -/
theorem witness_unpack : (0xC3#8 &&& 0xCF#8) = (0xF3#8 &&& 0xCF#8) := by decide

/-- RamMirrorsShareOneByte, at both ends of the range of k. -/
theorem witness_ram_mirrors :
    0 < 0x800 ∧ 0x7FF < 0x800
    ∧ (memRead (BitVec.ofNat 16 (3 * 0x800 + 0x7FF)) (memWrite (BitVec.ofNat 16 (0 * 0x800 + 0x7FF)) 0x5A (here []))).1
        = 0x5A
    ∧ (memRead (BitVec.ofNat 16 (0 * 0x800 + 0)) (memWrite (BitVec.ofNat 16 (2 * 0x800 + 0)) 0x5A (here []))).1
        = 0x5A := by decide

/-- ReadAfterWrite: b in storage; a writable with the canonical address of b; a in ROM; a and b apart. -/
theorem witness_read_after_write :
    (region 0x0000).isStorage = true ∧ (region 0xFFFF).isStorage = true
    ∧ (region 0x1800 = .ram ∧ canon 0x0000 = canon 0x1800)
    ∧ (memRead 0x0000 (memWrite 0x1800 0x11 (here []))).1 = 0x11
    ∧ (memRead 0xFFFF (memWrite 0xFFFF 0x11 (here []))).1 = 0x90
    ∧ (memRead 0x0010 (memWrite 0x0011 0x11 (here []))).1 = 0xFF := by decide

/-- UnbackedReadIsAFreshDraw, at both ends of the range. -/
theorem witness_unbacked_read :
    (0x2000 ≤ (0x2000#16).toNat ∧ (0x2000#16).toNat ≤ 0x5FFF)
    ∧ (0x2000 ≤ (0x5FFF#16).toNat ∧ (0x5FFF#16).toNat ≤ 0x5FFF) := by decide

/-- PushThenPullReturnsTheByte, third clause, at SP = $00 and the slot above it by wrap. -/
theorem witness_push : (0xFF#8 ≠ (start 0x00 0x00 0x00 0x00 0x8000 0x24 [] []).sp) := by decide

/-- EqualMemoriesAreEqualData. -/
theorem witness_equal_memories :
    Memory.wf [(0x0000, 0x01#8), (0x07FF, 0x02#8), (0xFFFF, 0x03#8)]
    ∧ ∀ a, Memory.get [(0x0000, 0x01#8), (0x07FF, 0x02#8), (0xFFFF, 0x03#8)] a
        = Memory.get [(0x0000, 0x01#8), (0x07FF, 0x02#8), (0xFFFF, 0x03#8)] a := ⟨by decide, fun _ => rfl⟩

/-- LoadProgramIsAllOrNothing: one byte too many; exactly up to $FFFF, with a byte in storage and an address that is
none of the program's. -/
theorem witness_load_program :
    0x10000 < (0xFFFE#16).toNat + [0x11#8, 0x22, 0x33].length
    ∧ (0xFFFE#16).toNat + [0x11#8, 0x22].length ≤ 0x10000 ∧ 0x2000 ≤ (0xFFFE#16).toNat
    ∧ (region (0xFFFE#16 + BitVec.ofNat 16 1)).isStorage = true
    ∧ ∀ i < [0x11#8, 0x22].length, canon 0x0000 ≠ canon (0xFFFE#16 + BitVec.ofNat 16 i) := by decide

/-- The same, at the length $0800 in RAM, at both its ends. -/
theorem witness_load_program_ram :
    (0x0000#16).toNat + (List.replicate 0x800 0x11#8).length ≤ 0x10000
    ∧ (List.replicate 0x800 0x11#8).length ≤ 0x800 ∧ 0x7FF < (List.replicate 0x800 0x11#8).length
    ∧ (region (0x0000#16 + BitVec.ofNat 16 0)).isStorage = true
    ∧ (region (0x0000#16 + BitVec.ofNat 16 0x7FF)).isStorage = true := by
  simp only [List.length_replicate]
  decide

/-- The same, for a full image of PRG ROM, at both its ends. -/
theorem witness_load_program_rom :
    (0x8000#16).toNat + (List.replicate 0x8000 0xEA#8).length ≤ 0x10000
    ∧ 0x2000 ≤ (0x8000#16).toNat ∧ 0x7FFF < (List.replicate 0x8000 0xEA#8).length
    ∧ (region (0x8000#16 + BitVec.ofNat 16 0)).isStorage = true
    ∧ (region (0x8000#16 + BitVec.ofNat 16 0x7FFF)).isStorage = true := by
  simp only [List.length_replicate]
  decide

/-- The same, last clause, for $0801 bytes in RAM: the last of them, which falls on the byte of the first, has no
later byte at its canonical address. -/
theorem witness_load_program_aliasing :
    (0x0000#16).toNat + (List.replicate 0x801 0x11#8).length ≤ 0x10000
    ∧ canon (0x0000#16 + BitVec.ofNat 16 0x800) = canon (0x0000#16 + BitVec.ofNat 16 0)
    ∧ (region (0x0000#16 + BitVec.ofNat 16 0x800)).isStorage = true
    ∧ ∀ j, 0x800 < j → j < (List.replicate 0x801 0x11#8).length →
        canon (0x0000#16 + BitVec.ofNat 16 j) ≠ canon (0x0000#16 + BitVec.ofNat 16 0x800) := by
  simp only [List.length_replicate]
  exact ⟨by decide, by decide, by decide, fun j h1 h2 => absurd h1 (by omega)⟩

/-- ResetStateIsResetOfEmptyMemory, on a state that differs from reset elsewhere. -/
theorem witness_reset_state :
    (start 0x01 0x02 0x03 0x04 0x4444 0xEB [] []).mem = [] ∧ (start 0x01 0x02 0x03 0x04 0x4444 0xEB [] []).draws = 0 := by
  decide

/-- DecodeOfEncodeIsTheInstruction, on an instruction of each length. -/
theorem witness_wf : Instr.rts.wf = true ∧ (Instr.bne 0x80).wf = true ∧ (Instr.jmpInd 0xFFFF).wf = true
    ∧ (Instr.ill 0xFF).wf = true := by decide

/-- UnimplementedOpcodesAreTheOthers, second clause, first and last value. -/
theorem witness_unimplemented : (0x02 : Byte) ∈ unimplementedOpcodes ∧ (0xFF : Byte) ∈ unimplementedOpcodes := by decide

/-- The hypotheses on the mnemonic of AdcAddsWithCarry, SbcSubtractsWithBorrow, AddAndSubtractIgnoreDecimal,
ComparesSetCarryZeroNegative and IncrementAndDecrementMemory. -/
theorem witness_arithmetic :
    (Instr.adcIzy 0x10).mnemonic = .adc ∧ (Instr.sbcAbx 0x02FF).mnemonic = .sbc ∧ (Instr.cmpImm 0x80).mnemonic = .cmp
    ∧ (Instr.cpxZp 0x10).mnemonic = .cpx ∧ (Instr.cpyAbs 0x0200).mnemonic = .cpy ∧ (Instr.incZpx 0xFF).mnemonic = .inc
    ∧ (Instr.decAbx 0x02FF).mnemonic = .dec := by decide

/-- The hypotheses on the mnemonic of LogicOperationsOnA, BitTestCopiesOperandBits, ShiftsMoveOneBit and
RotatesMoveNineBits. -/
theorem witness_logic :
    ((Instr.andIzx 0x10).mnemonic = .and ∧ Bool.and = Bool.and) ∧ ((Instr.oraZp 0x10).mnemonic = .ora ∧ Bool.or = Bool.or)
    ∧ ((Instr.eorAby 0x02FF).mnemonic = .eor ∧ Bool.xor = Bool.xor) ∧ (Instr.bitAbs 0x0200).mnemonic = .bit
    ∧ Instr.aslAcc.mnemonic = .asl ∧ (Instr.lsrAbs 0x0200).mnemonic = .lsr ∧ Instr.rolAcc.mnemonic = .rol
    ∧ (Instr.rorZp 0x10).mnemonic = .ror := ⟨⟨rfl, rfl⟩, ⟨rfl, rfl⟩, ⟨rfl, rfl⟩, rfl, rfl, rfl, rfl, rfl⟩

/-- BranchesTestOneFlag: each branch in a state in which it is taken or not. -/
theorem witness_branches :
    branchCondition (Instr.bcc 0x7F).mnemonic (here []).p = some true
    ∧ branchCondition (Instr.bcs 0x80).mnemonic (here []).p = some false
    ∧ branchCondition (Instr.bne 0x00).mnemonic (here []).p = some true
    ∧ branchCondition (Instr.beq 0x00).mnemonic (here []).p = some false
    ∧ branchCondition (Instr.bpl 0xFF).mnemonic (here []).p = some true
    ∧ branchCondition (Instr.bmi 0xFF).mnemonic (here []).p = some false
    ∧ branchCondition (Instr.bvc 0x01).mnemonic (here []).p = some true
    ∧ branchCondition (Instr.bvs 0x01).mnemonic (here []).p = some false := by decide

/-- JumpIndirectReadsThePointer, second clause, at the last pointer of a page that it covers. -/
theorem witness_jump_indirect : (0x02FE#16).toNat % 256 ≠ 255 := by decide

/-- LoadsSetRegisterZeroNegative and StoresWriteOneByte. -/
theorem witness_loads_and_stores :
    (Instr.ldaIzx 0x10).mnemonic = .lda ∧ (Instr.ldxZpy 0xF0).mnemonic = .ldx ∧ (Instr.ldyImm 0x00).mnemonic = .ldy
    ∧ (Instr.staIzy 0x10).mnemonic = .sta ∧ (Instr.stxZpy 0x10).mnemonic = .stx
    ∧ (Instr.styAbs 0x6000).mnemonic = .sty := by decide

/-- CliAndSeiGateTheNextBoundary. -/
theorem witness_cli_sei : maskedState.nmiPending = false ∧ maskedState.irqPending = true := by decide

/-- Whether an outcome is a next state. -/
def isNext : StepResult → Bool
  | .next _ => true
  | .fault _ => false
  | .refused _ => false

theorem next_of_isNext : (r : StepResult) → isNext r = true → ∃ t, r = .next t
  | .next t, _ => ⟨t, rfl⟩

/-- OnlyListedInstructionsWriteAFlag: LDA goes on and is no writer of C, V, I, D, B or U. -/
theorem witness_flags :
    (∃ t, exec (.ldaImm 0x80) (here []) = .next t)
    ∧ ∀ f ∈ [Flag.C, .V, .I, .D, .B, .U], (Instr.ldaImm 0x80).mnemonic ∉ flagWriters f := ⟨next_of_isNext _ (by decide), by decide⟩

/-- RegisterFrame: an instruction that goes on; STA writes no register and does not transfer control. -/
theorem witness_registers :
    (∃ t, exec (.staAbs 0x0200) (here []) = .next t)
    ∧ writesA (.staAbs 0x0200) = false ∧ writesX (.staAbs 0x0200) = false ∧ writesY (.staAbs 0x0200) = false
    ∧ transfersControl (.staAbs 0x0200) = false ∧ (Instr.staAbs 0x0200).mnemonic ≠ .txs := ⟨next_of_isNext _ (by decide), by decide⟩

/-- MemoryFrame: the byte beside the one stored; any byte for a store to ROM; the slot below three pushes. -/
theorem witness_memory :
    (∃ t, exec (.staAbs 0x0200) (here []) = .next t)
    ∧ (∀ a ∈ storeAddresses (.staAbs 0x0200) (here []), (region a = .ram ∨ region a = .prgRam) → canon 0x0201 ≠ canon a)
    ∧ (∃ t, exec (.incAbs 0x9000) (here []) = .next t)
    ∧ (∀ a ∈ storeAddresses (.incAbs 0x9000) (here []), (region a = .ram ∨ region a = .prgRam) → canon 0x9000 ≠ canon a)
    ∧ (∃ t, exec .brk (here []) = .next t)
    ∧ (∀ a ∈ storeAddresses .brk (here []), (region a = .ram ∨ region a = .prgRam) → canon 0x01FA ≠ canon a) := by
  have sta : storeAddresses (.staAbs 0x0200) (here []) = [0x0200] := rfl
  have inc : storeAddresses (.incAbs 0x9000) (here []) = [0x9000] := rfl
  have brk : storeAddresses .brk (here []) = [0x01FD, 0x01FC, 0x01FB] := by decide
  rw [sta, inc, brk]
  simp only [List.mem_cons, List.not_mem_nil, or_false, forall_eq_or_imp, forall_eq]
  exact ⟨next_of_isNext _ (by decide), by decide, next_of_isNext _ (by decide), by decide,
    next_of_isNext _ (by decide), by decide⟩

/-- TransactionsInOrder: instructions of several shapes that go on. -/
theorem witness_transactions :
    (∃ t, exec (.rorAbx 0x02FF) (here []) = .next t) ∧ (∃ t, exec .brk (here []) = .next t)
    ∧ (∃ t, exec (.jmpInd 0x02FF) (here []) = .next t) := ⟨next_of_isNext _ (by decide), next_of_isNext _ (by decide), next_of_isNext _ (by decide)⟩

/-- FetchReadsTheInstructionAtPc: in ROM, at the top of RAM, and across the wrap of the address space. -/
theorem witness_fetch :
    fetchesFromStorage (here [0xA9, 0x42]).pc = true ∧ fetchesFromStorage 0x1FFD = true ∧ fetchesFromStorage 0xFFFF = true
    ∧ fetchesFromStorage 0x1FFE = false := by decide

/-- StepRunsTheDecodedInstruction: no NMI, with no IRQ and with a masked one, and the bytes of a well-formed
instruction in place. -/
theorem witness_step :
    ((here [0xA9, 0x42]).nmiPending = false ∧ (here [0xA9, 0x42]).irqPending = false)
    ∧ (maskedState.nmiPending = false ∧ maskedState.p.i = true)
    ∧ (Instr.ldaImm 0x42).wf = true
    ∧ (∀ (k : Nat) (h : k < (encode (.ldaImm 0x42)).length),
        (region ((here [0xA9, 0x42]).pc + BitVec.ofNat 16 k)).isStorage = true
        ∧ (here [0xA9, 0x42]).stored ((here [0xA9, 0x42]).pc + BitVec.ofNat 16 k) = (encode (.ldaImm 0x42))[k]) := by
  decide

/-- InterruptServiceStep and InterruptThenRtiRestores, both kinds. -/
theorem witness_interrupts :
    nmiState.nmiPending = true
    ∧ (irqState.nmiPending = false ∧ irqState.irqPending = true ∧ irqState.p.i = false) := by decide

/-- The statements whose hypothesis is that step goes on: TriggersSetAndServiceClears, StepKeepsMemoryCanonical,
StepNeverChangesRom, StepNeverChangesStoredBreak, StepChargesTwoToSevenCycles. -/
theorem witness_steps :
    (∃ t, step (here [0x8D, 0x00, 0x90]) = .next t) ∧ Inv (here [0x8D, 0x00, 0x90]) ∧ 0x8000 ≤ (0x8000#16).toNat
    ∧ (∃ t, step irqState = .next t) ∧ Inv irqState ∧ (∃ t, step nmiState = .next t) :=
  ⟨next_of_isNext _ (by decide), by decide, by decide, next_of_isNext _ (by decide), by decide, next_of_isNext _ (by decide)⟩

/-- StepStopsOnlyOnUnimplementedOpcode: each of its three cases. -/
theorem witness_stops :
    nmiState.nmiPending = true
    ∧ ((here [0x02]).nmiPending = false ∧ (here [0x02]).irqPending = false
        ∧ (memRead (here [0x02]).pc (here [0x02])).1 ∈ unimplementedOpcodes)
    ∧ (memRead (here [0xEA]).pc (here [0xEA])).1 ∉ unimplementedOpcodes := by decide

end Sys2Proof.Tests
end

section
/-! ## Memory stays canonical (O56) -/

namespace Sys2Proof.Machine

open Claims

theorem ChangesRegisters.mem {f : Byte → State → State} (hf : ChangesRegisters f) (v : Byte) (s : State) :
    (f v s).mem = s.mem := by
  obtain ⟨a, x, y, p, h, -⟩ := hf v s
  rw [h]

theorem RegistersOnly.mem {f : State → State} (hf : RegistersOnly f) (s : State) : (f s).mem = s.mem := by
  obtain ⟨a, x, y, sp, p, h, -⟩ := hf s
  rw [h]

/-- An instruction with no operand keeps the canonical form where its operation does. -/
theorem impliedOp_wf {f : State → State} (hf : ∀ s : State, s.mem.wf → (f s).mem.wf) {n : Nat} {s t : State}
    (h : s.mem.wf) (ht : impliedOp f n s = .next t) : t.mem.wf := by
  rw [← Host.Outcome.next.inj ht]
  exact hf (s.advance 1) h

/-- An instruction keeps the canonical form of memory, whatever its shape. -/
theorem exec_wf {i : Instr} {s t : State} (h : s.mem.wf) (ht : exec i s = .next t) : t.mem.wf := by
  rcases exec_shape i s with ⟨f, _, _, _, hf, -, -, e⟩ | ⟨_, _, _, -, -, e⟩ | ⟨_, _, _, -, -, -, e⟩ | ⟨f, hf, e⟩
    | (e | e | e | e | e | e | e) | ⟨_, _, e⟩ | ⟨_, _, -, -, e⟩ | ⟨_, e⟩ | ⟨_, -, e⟩ <;> rw [e] at ht
  · -- an operand is loaded
    rw [← Host.Outcome.next.inj ht]
    simpa [hf.mem] using h
  · -- a store
    rw [← Host.Outcome.next.inj ht]
    simpa using memWrite_wf (by simpa using h) _ _
  · -- a read-modify-write
    rw [← Host.Outcome.next.inj ht]
    simpa using modifyPlace_wf (by simpa using h) _ _
  · exact impliedOp_wf (fun s hs => by rwa [hf.mem]) h ht
  · exact impliedOp_wf (f := pushA) (fun _ hs => push_wf hs _) h ht
  · exact impliedOp_wf (f := pushP) (fun _ hs => push_wf hs _) h ht
  · exact impliedOp_wf (f := pullA) (fun _ hs => by simpa [pullA] using hs) h ht
  · exact impliedOp_wf (f := pullP) (fun _ hs => by simpa [pullP] using hs) h ht
  · exact impliedOp_wf (f := returnFromSubroutine) (fun _ hs => by simpa [returnFromSubroutine] using hs) h ht
  · exact impliedOp_wf (f := softwareInterrupt) (fun _ hs => enterHandler_wf hs _ _ _) h ht
  · exact impliedOp_wf (f := returnFromInterrupt) (fun _ hs => by simpa [returnFromInterrupt] using hs) h ht
  · -- a branch
    obtain ⟨w, n, hb, -⟩ := branchOp_next _ _ _ _
    rw [← Host.Outcome.next.inj (hb.symm.trans ht)]
    exact h
  · -- a jump
    rw [← Host.Outcome.next.inj ht]
    simpa using h
  · -- the subroutine call
    rw [← Host.Outcome.next.inj ht]
    simpa using pushWord_wf (by simpa using h) _
  · cases ht

/-- Settles O56: the entry to a handler keeps the canonical form, and so does every instruction. -/
theorem stepKeepsMemoryCanonical : Obligations.StepKeepsMemoryCanonical := by
  intro s t hs ht
  rcases step_cases ht with ⟨-, rfl⟩ | ⟨-, -, rfl⟩ | ⟨-, -, ht⟩
  · simpa [Claims.Inv, serviceNmi] using enterHandler_wf (by simpa using hs) _ _ _
  · simpa [Claims.Inv, serviceIrq] using enterHandler_wf (by simpa using hs) _ _ _
  · exact exec_wf (by simpa using hs) ht

/-! ## Canonical memories that read alike are equal (O8) -/

/-- Where the addresses rise, each listed byte is what its address reads as. -/
theorem Memory.get_of_mem {m : Memory} (h : m.Pairwise (fun c d => c.1 < d.1)) {c : Host.Cell} (hc : c ∈ m) :
    m.get c.1 = c.2 := by
  induction m with
  | nil => cases hc
  | cons d m ih =>
    rw [List.pairwise_cons] at h
    rcases List.mem_cons.1 hc with rfl | hc
    · simp [Memory.get]
    · have hlt : d.1 < c.1 := h.1 c hc
      simp [Memory.get, hlt.ne, ih h.2 hc]

/-- An address that does not read as an unlisted one is listed. -/
theorem Memory.mem_of_get_ne {m : Memory} {a : Nat} (h : m.get a ≠ Config.unlistedByte) : (a, m.get a) ∈ m := by
  induction m with
  | nil => exact absurd rfl h
  | cons d m ih =>
    by_cases hd : d.1 = a
    · subst hd
      simp [Memory.get]
    · simp only [Memory.get, if_neg hd] at h ⊢
      exact List.mem_cons_of_mem _ (ih h)

/-- What a canonical memory lists, said by its reads alone. -/
theorem Memory.mem_iff_get {m : Memory} (h : m.wf) (c : Host.Cell) :
    c ∈ m ↔ m.get c.1 = c.2 ∧ c.2 ≠ Config.unlistedByte := by
  constructor
  · intro hc
    exact ⟨Memory.get_of_mem h.1 hc, (h.2 c hc).2⟩
  · rintro ⟨hget, hne⟩
    simpa [hget] using Memory.mem_of_get_ne (m := m) (a := c.1) (by rwa [hget])

/-- Settles O8: the two memories list the same cells, by `Memory.mem_iff_get`, and both in rising order. -/
theorem equalMemoriesAreEqualData : Obligations.EqualMemoriesAreEqualData := by
  intro m n hm hn hget
  have : Std.Irrefl (fun c d : Host.Cell => c.1 < d.1) := ⟨fun c => Nat.lt_irrefl c.1⟩
  have : Std.Antisymm (fun c d : Host.Cell => c.1 < d.1) := ⟨fun _ _ h h' => absurd h' (Nat.lt_asymm h)⟩
  refine List.Pairwise.eq_of_mem_iff hm.1 hn.1 fun c => ?_
  rw [Memory.mem_iff_get hm, Memory.mem_iff_get hn, hget]

/-! ## The stack (O7) -/

theorem slot_eq_stackAddr (sp : Byte) : slot sp = stackAddr sp := rfl

/-- Settles O7, by what a push leaves in each slot of the stack page and what a pull yields. -/
theorem pushThenPullReturnsTheByte : Obligations.PushThenPullReturnsTheByte := by
  intro s v q
  have up : s.sp - 1#8 + 1#8 = s.sp := BitVec.sub_add_cancel _ _
  refine ⟨?_, ?_, fun hq => ?_, ?_, ?_, ?_, ?_⟩
  · rw [slot_eq_stackAddr, stored_push_stackAddr, if_pos rfl]
  · rw [push_sp]; bv_omega
  · rw [slot_eq_stackAddr, stored_push_stackAddr, if_neg hq]
  · rw [pull_sp]; bv_omega
  · rw [pull_val, pull_sp, slot_eq_stackAddr]
  · rw [pull_val, push_sp, up, stored_push_stackAddr, if_pos rfl]
  · rw [pull_sp, push_sp, up]

/-! ## The status byte (O1) -/

/-- PackP by the weights of the bits (10_state.md R13, R18). -/
theorem Status.toNat_pack (p : Status) (b : Bool) :
    (p.pack b).toNat = p.n.toNat * 128 + p.v.toNat * 64 + 32 + b.toNat * 16 + p.d.toNat * 8
      + p.i.toNat * 4 + p.z.toNat * 2 + p.c.toNat := by
  rcases p with ⟨n, v, pb, d, i, z, c⟩
  simp only [Status.pack]
  decide +revert

theorem Status.getLsbD_pack_four (p : Status) (b : Bool) : (p.pack b).getLsbD 4 = b := by
  rcases p with ⟨n, v, pb, d, i, z, c⟩
  simp only [Status.pack]
  decide +revert

theorem Status.loadByte_asByte (p : Status) : p.loadByte p.asByte = p := by
  simp only [Status.loadByte, Status.asByte, Status.unpack_pack, Status.getLsbD_pack_four]

/-- Every bit of a loaded byte but bit 5 is kept (10_state.md R15, R20). -/
theorem Status.asByte_loadByte (p : Status) (v : Byte) : (p.loadByte v).asByte = v ||| 0x20#8 := by
  simp only [Status.asByte, Status.loadByte, Status.unpack, Status.pack]
  decide +revert

theorem Status.get_set (p : Status) (f g : Flag) (on : Bool) :
    (p.set f on).get g = if g = .U then true else if g = f then on else p.get g := by
  cases f <;> cases g <;> rfl

/-- Settles O1: one lemma per clause; that as_byte is PackP(P.B) and that U is not written hold by definition. -/
theorem statusByteRoundTrip : Obligations.StatusByteRoundTrip := fun p v f g b on =>
  ⟨p.toNat_pack b, rfl, p.loadByte_asByte, p.asByte_loadByte v, p.get_set f g on, rfl⟩

/-! ## The operation of a mnemonic

`Means` says of each instruction which shape it has, with the operation of its mnemonic (30_encoding.md R75), the
operand of its form (R71) and the cycles of its row (70_reset_and_hazards.md R289). -/

/-- What the instructions of one mnemonic do, whatever their form: one constructor per shape of instruction. -/
inductive Operation where
  | load (f : Byte → State → State)
  | store (r : State → Byte)
  | modify (f : Modify)
  | implied (f : State → State)
  | branch (cond : Status → Bool)
  | jump
  | call
  | stop

/-- The operation of each mnemonic: 41_arithmetic.md to 46_system.md. -/
def operation : Mnemonic → Operation
  | .adc => .load addA
  | .sbc => .load subA
  | .cmp => .load compareA
  | .cpx => .load compareX
  | .cpy => .load compareY
  | .and => .load andA
  | .ora => .load oraA
  | .eor => .load eorA
  | .bit => .load bitTest
  | .lda => .load loadA
  | .ldx => .load loadX
  | .ldy => .load loadY
  | .sta => .store State.a
  | .stx => .store State.x
  | .sty => .store State.y
  | .inc => .modify increment
  | .dec => .modify decrement
  | .asl => .modify shiftLeft
  | .lsr => .modify shiftRight
  | .rol => .modify rotateLeft
  | .ror => .modify rotateRight
  | .inx => .implied incrementX
  | .iny => .implied incrementY
  | .dex => .implied decrementX
  | .dey => .implied decrementY
  | .tax => .implied transferAX
  | .tay => .implied transferAY
  | .txa => .implied transferXA
  | .tya => .implied transferYA
  | .tsx => .implied transferSX
  | .txs => .implied transferXS
  | .pha => .implied pushA
  | .php => .implied pushP
  | .pla => .implied pullA
  | .plp => .implied pullP
  | .rts => .implied returnFromSubroutine
  | .brk => .implied softwareInterrupt
  | .rti => .implied returnFromInterrupt
  | .nop => .implied noOperation
  | .clc => .implied clearC
  | .sec => .implied setC
  | .cli => .implied clearI
  | .sei => .implied setI
  | .cld => .implied clearD
  | .sed => .implied setD
  | .clv => .implied clearV
  | .bcc => .branch (fun p => !p.c)
  | .bcs => .branch (fun p => p.c)
  | .beq => .branch (fun p => p.z)
  | .bne => .branch (fun p => !p.z)
  | .bmi => .branch (fun p => p.n)
  | .bpl => .branch (fun p => !p.n)
  | .bvc => .branch (fun p => !p.v)
  | .bvs => .branch (fun p => p.v)
  | .jmp => .jump
  | .jsr => .call
  | .ill => .stop

/-- `r` is the outcome of the operation of `i` in `s`, on the operand of its form, with the base cycles and the
page-crossing mark of its row. -/
inductive Means (i : Instr) (s : State) : StepResult → Prop where
  | load {f src} (hop : operation i.mnemonic = .load f) (hform : i.form = src.form) :
      Means i s (readOp f src (baseCycles i) (markedPlus i) s)
  | store {r m} (hop : operation i.mnemonic = .store r) (hform : i.form = .mem m) :
      Means i s (storeOp (r s) m (baseCycles i) s)
  | modify {f pl} (hop : operation i.mnemonic = .modify f) (hform : i.form = pl.form) :
      Means i s (modifyOp f pl (baseCycles i) s)
  | implied {f} (hop : operation i.mnemonic = .implied f) (hform : i.form = .imp) :
      Means i s (impliedOp f (baseCycles i) s)
  | branch {cond off} (hop : operation i.mnemonic = .branch cond) (hform : i.form = .rel off) :
      Means i s (branchOp (cond s.p) off (baseCycles i) s)
  | jump {m} (hop : operation i.mnemonic = .jump) (hform : i.form = .mem m) : Means i s (jumpOp m (baseCycles i) s)
  | call {m} (hop : operation i.mnemonic = .call) (hform : i.form = .mem m) : Means i s (callOp m (baseCycles i) s)
  | stop {opcode} (hop : operation i.mnemonic = .stop) (hform : i.form = .ill opcode) :
      Means i s (.fault (.unimplementedOpcode opcode))

/-- The outcome of every instruction is that of its mnemonic's operation on the operand of its form. -/
theorem exec_means (i : Instr) (s : State) : Means i s (exec i s) := by
  cases i with
  | adcImm | sbcImm | cmpImm | cpxImm | cpyImm | andImm | oraImm | eorImm | ldaImm | ldxImm | ldyImm =>
    exact .load (src := .imm _) rfl rfl
  | adcZp | adcZpx | adcAbs | adcAbx | adcAby | adcIzx | adcIzy
  | sbcZp | sbcZpx | sbcAbs | sbcAbx | sbcAby | sbcIzx | sbcIzy
  | cmpZp | cmpZpx | cmpAbs | cmpAbx | cmpAby | cmpIzx | cmpIzy | cpxZp | cpxAbs | cpyZp | cpyAbs
  | andZp | andZpx | andAbs | andAbx | andAby | andIzx | andIzy
  | oraZp | oraZpx | oraAbs | oraAbx | oraAby | oraIzx | oraIzy
  | eorZp | eorZpx | eorAbs | eorAbx | eorAby | eorIzx | eorIzy | bitZp | bitAbs
  | ldaZp | ldaZpx | ldaAbs | ldaAbx | ldaAby | ldaIzx | ldaIzy
  | ldxZp | ldxZpy | ldxAbs | ldxAby | ldyZp | ldyZpx | ldyAbs | ldyAbx =>
    exact .load (src := .mem _) rfl rfl
  | staZp | staZpx | staAbs | staAbx | staAby | staIzx | staIzy | stxZp | stxZpy | stxAbs | styZp | styZpx | styAbs =>
    exact .store rfl rfl
  | aslAcc | lsrAcc | rolAcc | rorAcc => exact .modify (pl := .acc) rfl rfl
  | incZp | incZpx | incAbs | incAbx | decZp | decZpx | decAbs | decAbx
  | aslZp | aslZpx | aslAbs | aslAbx | lsrZp | lsrZpx | lsrAbs | lsrAbx
  | rolZp | rolZpx | rolAbs | rolAbx | rorZp | rorZpx | rorAbs | rorAbx =>
    exact .modify (pl := .mem _) rfl rfl
  | inx | iny | dex | dey | tax | tay | txa | tya | tsx | txs | pha | php | pla | plp | rts | brk | rti | nop
  | clc | sec | cli | sei | cld | sed | clv => exact .implied rfl rfl
  | bcs | beq | bmi | bvs => exact .branch rfl rfl
  | bcc off => exact .branch (i := .bcc off) rfl rfl
  | bne off => exact .branch (i := .bne off) rfl rfl
  | bpl off => exact .branch (i := .bpl off) rfl rfl
  | bvc off => exact .branch (i := .bvc off) rfl rfl
  | jmpAbs | jmpInd => exact .jump rfl rfl
  | jsr => exact .call rfl rfl
  | ill => exact .stop rfl rfl

/-! ## What an instruction may write -/

/-- `t` differs from `s` in no register, flag or latch but those that the tables of 10_state.md R10 to R14 list for
`i`; `s` is the state whose PC is past the instruction. -/
def WritesOnlyListed (i : Instr) (s t : State) : Prop :=
  (writesA i = false → t.a = s.a) ∧ (writesX i = false → t.x = s.x) ∧ (writesY i = false → t.y = s.y)
  ∧ t.sp = (if i.mnemonic = .txs then s.x else s.sp + spMove i.mnemonic)
  ∧ (transfersControl i = false → t.pc = s.pc)
  ∧ (∀ f, i.mnemonic ∉ flagWriters f → t.p.get f = s.p.get f)
  ∧ t.nmiPending = s.nmiPending ∧ t.irqPending = s.irqPending

/-- The operation itself, wherever it is run, writes only what is listed for `i`. -/
def Operation.WritesOnlyListed (i : Instr) : Operation → Prop
  | .load f => ∀ v s, Machine.WritesOnlyListed i s (f v s)
  | .modify f => ∀ v s, Machine.WritesOnlyListed i s (s.setP (f v s.p).2)
  | .implied f => ∀ s, Machine.WritesOnlyListed i s (f s)
  | .branch _ | .jump => ∀ w s, Machine.WritesOnlyListed i s (s.setPc w)
  | .call => ∀ v w s, Machine.WritesOnlyListed i s ((pushWord v s).setPc w)
  | .store _ | .stop => ∀ s, Machine.WritesOnlyListed i s s

theorem Flag.forall_iff {P : Flag → Prop} :
    (∀ f, P f) ↔ P .N ∧ P .V ∧ P .U ∧ P .B ∧ P .D ∧ P .I ∧ P .Z ∧ P .C :=
  ⟨fun h => ⟨h _, h _, h _, h _, h _, h _, h _, h _⟩,
    fun ⟨hn, hv, hu, hb, hd, hi, hz, hc⟩ f => by cases f <;> assumption⟩

@[simp] theorem leaveHandler_p (s : State) : (leaveHandler s).p = s.p.unpack (pull s).1 := by simp [leaveHandler]

/-- Every mnemonic's operation keeps to the tables. -/
theorem operation_writesOnlyListed (i : Instr) : (operation i.mnemonic).WritesOnlyListed i := by
  simp only [operation, Operation.WritesOnlyListed, WritesOnlyListed, writesA, writesX, writesY, transfersControl,
    Flag.forall_iff, flagWriters, Status.get]
  generalize i.mnemonic = m
  cases m with
  | adc | sbc => intro v s; simp [spMove, addA, subA, State.takeSum]
  | cmp | cpx | cpy => intro v s; simp [spMove, compareA, compareX, compareY, Status.compare]
  | and | ora | eor => intro v s; simp [spMove, andA, oraA, eorA, State.setAZN]
  | bit => intro v s; simp [spMove, bitTest, Status.bitTest]
  | lda | ldx | ldy => intro v s; simp [spMove, loadA, loadX, loadY]
  | inc | dec => intro v s; simp [spMove, increment, decrement]
  | asl | lsr | rol | ror => intro v s; simp [spMove, shiftLeft, shiftRight, rotateLeft, rotateRight]
  | inx | iny | dex | dey => intro s; simp [spMove, incrementX, incrementY, decrementX, decrementY]
  | tax | tay | txa | tya | tsx | txs =>
    intro s
    simp [spMove, transferAX, transferAY, transferXA, transferYA, transferSX, transferXS, loadA, loadX, loadY]
  | pha | php => intro s; simp [spMove, pushA, pushP, BitVec.sub_eq_add_neg]
  | pla | plp => intro s; simp [spMove, pullA, pullP]
  | rts | brk | rti =>
    intro s
    simp [spMove, returnFromSubroutine, softwareInterrupt, returnFromInterrupt, BitVec.sub_eq_add_neg,
      BitVec.add_assoc]
  | nop | clc | sec | cli | sei | cld | sed | clv =>
    intro s; simp [spMove, noOperation, clearC, setC, clearI, setI, clearD, setD, clearV]
  | bcc | bcs | beq | bne | bmi | bpl | bvc | bvs | jmp => intro w s; simp [spMove]
  | jsr => intro v w s; simp [spMove, BitVec.sub_eq_add_neg, BitVec.add_assoc]
  | sta | stx | sty | ill => intro s; simp [spMove]

/-- The status after a read-modify-write is that of its operation on some byte. -/
theorem modifyPlace_p (f : Modify) (pl : Place) (s : State) : ∃ v, (modifyPlace f pl s).p = (f v s.p).2 := by
  cases pl with
  | acc => exact ⟨s.a, rfl⟩
  | mem m => exact ⟨_, by simp [modifyPlace]; rfl⟩

/-- Only the accumulator form of a read-modify-write writes A. -/
theorem modifyPlace_mem_a (f : Modify) (m : AddrMode) (s : State) : (modifyPlace f (.mem m) s).a = s.a := by
  simp [modifyPlace]

/-- The operation of an instruction keeps to the tables, and so does the rest of the instruction: the operand and its
addresses are resolved without writing a register. -/
theorem Means.writesOnlyListed {i : Instr} {s t : State} {r : StepResult} (means : Means i s r)
    (ht : r = .next t) : WritesOnlyListed i (s.advance i.length) t := by
  have listed := operation_writesOnlyListed i
  cases means with
  | @load f src hop hform =>
    rw [hop] at listed
    rw [← Host.Outcome.next.inj ht, Instr.length, hform]
    let l := loadSource src (s.advance src.form.length)
    simpa [WritesOnlyListed, l] using listed l.val l.st
  | @store r m hop hform =>
    rw [hop] at listed
    rw [← Host.Outcome.next.inj ht, Instr.length, hform]
    simpa [WritesOnlyListed, Form.length] using listed s
  | @modify f pl hop hform =>
    rw [hop] at listed
    rw [← Host.Outcome.next.inj ht, Instr.length, hform]
    obtain ⟨v, hv⟩ := modifyPlace_p f pl (s.advance pl.form.length)
    obtain ⟨-, hrest⟩ := listed v (s.advance pl.form.length)
    refine ⟨fun hw => ?_, by simpa [hv] using hrest⟩
    cases pl with
    | acc => simp [writesA, hform, Place.form] at hw
    | mem m => simp [modifyPlace_mem_a]
  | implied hop hform =>
    rw [hop] at listed
    rw [← Host.Outcome.next.inj ht, Instr.length, hform]
    simpa [WritesOnlyListed, Form.length] using listed (s.advance 1)
  | branch hop hform =>
    rw [hop] at listed
    rw [Instr.length, hform]
    obtain ⟨w, n, hb, -⟩ := branchOp_next _ _ _ _
    rw [← Host.Outcome.next.inj (hb.symm.trans ht)]
    simpa [WritesOnlyListed, Form.length] using listed w (s.advance 2)
  | @jump m hop hform =>
    rw [hop] at listed
    rw [← Host.Outcome.next.inj ht, Instr.length, hform]
    let l := resolveAddr m (s.advance m.length)
    simpa [WritesOnlyListed, Form.length, l] using listed l.ea l.st
  | @call m hop hform =>
    rw [hop] at listed
    rw [← Host.Outcome.next.inj ht, Instr.length, hform]
    let l := resolveAddr m (s.advance m.length)
    simpa [WritesOnlyListed, Form.length, l] using listed (l.st.pc - 1#16) l.ea l.st
  | stop => cases ht

/-- The frame of every instruction, in one statement. -/
theorem exec_writesOnlyListed {i : Instr} {s t : State} (h : exec i s = .next t) :
    WritesOnlyListed i (s.advance i.length) t :=
  (exec_means i s).writesOnlyListed h

/-- Settles O46: the flags' part of the frame. -/
theorem onlyListedInstructionsWriteAFlag : Obligations.OnlyListedInstructionsWriteAFlag := by
  intro i s t f h hf
  obtain ⟨-, -, -, -, -, flags, -, -⟩ := exec_writesOnlyListed h
  exact flags f hf

/-- Settles O47: the registers' and the latches' part of the frame. -/
theorem registerFrame : Obligations.RegisterFrame := by
  intro i s t h
  obtain ⟨ha, hx, hy, hsp, hpc, -, hnmi, hirq⟩ := exec_writesOnlyListed h
  exact ⟨ha, hx, hy, hsp, hpc, hnmi, hirq⟩

/-! ## The latches (O54) -/

/-- No instruction writes a latch (10_state.md R21). -/
theorem exec_latches {i : Instr} {s t : State} (h : exec i s = .next t) :
    t.nmiPending = s.nmiPending ∧ t.irqPending = s.irqPending := by
  obtain ⟨-, -, -, -, -, -, hnmi, hirq⟩ := exec_writesOnlyListed h
  exact ⟨hnmi, hirq⟩

/-- Settles O54: a service clears its own latch; a step that runs an instruction found no NMI and no IRQ that I lets
through, and leaves both latches. -/
theorem triggersSetAndServiceClears : Obligations.TriggersSetAndServiceClears := by
  refine ⟨fun s => ⟨rfl, rfl, rfl, rfl⟩, fun s t h => ?_⟩
  rcases step_cases h with ⟨hn, rfl⟩ | ⟨hn, hi, rfl⟩ | ⟨hn, hi, h⟩
  · simp [serviceNmi, hn]
  · simp only [irqServiceable, Bool.and_eq_true, Bool.not_eq_true'] at hi
    simp [serviceIrq, hn, hi]
  · obtain ⟨hnmi, hirq⟩ := exec_latches h
    simp only [fetch_nmiPending, fetch_irqPending, State.clearBus_nmiPending, State.clearBus_irqPending] at hnmi hirq
    refine ⟨hnmi.trans hn, ?_⟩
    rw [hirq, hn]
    cases hq : s.irqPending with
    | false => rfl
    | true => simpa [irqServiceable, hq] using hi

end Sys2Proof.Machine
end

section
/-! ## The address map (O4) -/

namespace Sys2Proof.Machine

open Claims

/-- The map of 20_memory.md R52 as one chain of ranges. -/
theorem region_eq (a : Word) :
    region a = if a.toNat ≤ 0x1FFF then .ram else if a.toNat ≤ 0x3FFF then .ppu
      else if a.toNat ≤ 0x4017 then .apu else if a.toNat ≤ 0x401F then .apuTest
      else if a.toNat ≤ 0x5FFF then .unmapped else if a.toNat ≤ 0x7FFF then .prgRam else .prgRom := by
  have htop : a.toNat < 0x8000 + Config.prgRomSize := a.isLt
  simp only [region, htop, if_true, Nat.lt_succ_iff]

theorem canon_ppu {a : Word} (hlo : 0x2000 ≤ a.toNat) (hhi : a.toNat ≤ 0x3FFF) :
    (canon a).toNat = 0x2000 + a.toNat % 8 := by
  have hram : ¬ a.toNat ≤ 0x1FFF := by omega
  simp only [canon, hram, hhi, if_false, if_true, BitVec.toNat_and]
  obtain ⟨r, hr, ha⟩ : ∃ r < 2 ^ 13, a.toNat = 2 ^ 13 * 1 + r := ⟨a.toNat - 0x2000, by omega, by omega⟩
  calc a.toNat &&& (2 ^ 13 * 1 + 7)
      = 2 ^ 13 * 1 ||| (r &&& 7) := by
        rw [ha, Nat.two_pow_add_eq_or_of_lt hr, Nat.two_pow_add_eq_or_of_lt (by decide), Nat.or_and_distrib_left]
    _ = 2 ^ 13 * 1 + r % 8 := by
        rw [Nat.and_two_pow_sub_one_eq_mod r 3, Nat.two_pow_add_eq_or_of_lt (by omega)]
    _ = 0x2000 + a.toNat % 8 := by omega

/-- The canonical address by range (20_memory.md R53). -/
theorem toNat_canon (a : Word) :
    (canon a).toNat = if a.toNat ≤ 0x1FFF then a.toNat % 0x800
      else if a.toNat ≤ 0x3FFF then 0x2000 + a.toNat % 8 else a.toNat := by
  split_ifs with hram hppu
  · exact canon_ram (by omega)
  · exact canon_ppu (by omega) hppu
  · rw [canon_high (by omega)]

/-- Settles O4: the two ranges above. -/
theorem addressMapByRange : Obligations.AddressMapByRange := fun a => ⟨region_eq a, toNat_canon a⟩

/-- Where storage lies (20_memory.md R52, last column). -/
theorem isStorage_region_iff (a : Word) :
    (region a).isStorage = true ↔ a.toNat ≤ 0x1FFF ∨ 0x6000 ≤ a.toNat := by
  rw [region_eq]
  split_ifs <;> simp only [Region.isStorage, Bool.false_eq_true, true_iff, false_iff] <;> omega

/-! ## Reads after writes (O3, O5) -/

/-- The regions where a write by the core is stored (20_memory.md R59). -/
theorem Region.isWritable_iff (r : Region) : r.isWritable = true ↔ r = .ram ∨ r = .prgRam := by
  cases r <;> decide

/-- Settles O5: both reads give what is stored at `b`, which the write changes only as `stored_memWrite` says. -/
theorem readAfterWrite : Obligations.ReadAfterWrite := by
  intro s a b v hb
  simp only [memRead_storage hb, stored_memWrite, Region.isWritable_iff]

/-- An appearance of the RAM byte `k` (20_memory.md R54): it lies in RAM and its canonical address is `k`. -/
theorem ramMirror {k : Nat} (hk : k < 0x800) (m : Fin 4) :
    region (BitVec.ofNat 16 (m * 0x800 + k)) = .ram
      ∧ canon (BitVec.ofNat 16 (m * 0x800 + k)) = BitVec.ofNat 16 k := by
  have hm := m.isLt
  have hval : (BitVec.ofNat 16 (m * 0x800 + k)).toNat = m * 0x800 + k := by
    rw [BitVec.toNat_ofNat]; omega
  refine ⟨region_ram (by omega), BitVec.eq_of_toNat_eq ?_⟩
  rw [canon_ram (by omega), hval, BitVec.toNat_ofNat]
  omega

/-- Settles O3: the four appearances have one canonical address, and storage is read and written by it. -/
theorem ramMirrorsShareOneByte : Obligations.RamMirrorsShareOneByte := by
  intro s v k hk m n
  obtain ⟨hregion, hcanon⟩ := ramMirror hk m
  obtain ⟨hregion', hcanon'⟩ := ramMirror hk n
  constructor
  · simp only [memRead_val, State.stored, hregion, hregion', hcanon, hcanon']
  · simp [memRead_val, stored_memWrite, hregion, hregion', hcanon, hcanon', Region.isStorage, Region.isWritable]

/-! ## Loading a program (O9) -/

/-- Placing bytes changes memory alone (20_memory.md R61). -/
theorem placeBytes_state (vs : List Byte) (addr : Word) (s : State) :
    placeBytes vs addr s = { s with mem := (placeBytes vs addr s).mem } :=
  State.ext_fields (by simp) (by simp) (by simp) (by simp) (by simp) (by simp) (by simp) (by simp) (by simp) rfl
    (by simp) (by simp)

/-- A byte at which no byte of the sequence lands stays (20_memory.md R61). -/
theorem stored_placeBytes_of_ne {vs : List Byte} {addr b : Word} (s : State)
    (h : ∀ i < vs.length, canon b ≠ canon (addr + BitVec.ofNat 16 i)) :
    (placeBytes vs addr s).stored b = s.stored b := by
  induction vs generalizing addr s with
  | nil => rfl
  | cons v vs ih =>
    have hhead : canon b ≠ canon addr := by simpa using h 0 (by simp)
    have htail : ∀ i < vs.length, canon b ≠ canon (addr + 1#16 + BitVec.ofNat 16 i) := fun i hi => by
      rw [BitVec.add_assoc, ← BitVec.ofNat_add, Nat.add_comm]
      exact h (i + 1) (by simpa using hi)
    rw [placeBytes, ih _ htail, State.stored_place, if_neg (fun hc => hhead hc.2)]

/-- The byte that is the last of the sequence to land on its storage is what is then read there. -/
theorem stored_placeBytes {vs : List Byte} {addr : Word} (s : State) {i : Nat} (h : i < vs.length)
    (hstorage : (region (addr + BitVec.ofNat 16 i)).isStorage = true)
    (hlast : ∀ j, i < j → j < vs.length → canon (addr + BitVec.ofNat 16 j) ≠ canon (addr + BitVec.ofNat 16 i)) :
    (placeBytes vs addr s).stored (addr + BitVec.ofNat 16 i) = vs[i] := by
  have hsplit : vs = vs.take i ++ vs[i] :: vs.drop (i + 1) := by
    rw [← List.drop_eq_getElem_cons h, List.take_append_drop]
  have hlater : ∀ j < (vs.drop (i + 1)).length, canon (addr + BitVec.ofNat 16 i)
      ≠ canon (addr + BitVec.ofNat 16 i + 1#16 + BitVec.ofNat 16 j) := fun j hj => by
    rw [List.length_drop] at hj
    rw [BitVec.add_assoc, ← BitVec.ofNat_add, BitVec.add_assoc, ← BitVec.ofNat_add]
    exact (hlast _ (by omega) (by omega)).symm
  calc (placeBytes vs addr s).stored (addr + BitVec.ofNat 16 i)
      = ((placeBytes (vs.take i) addr s).place (addr + BitVec.ofNat 16 i) vs[i]).stored (addr + BitVec.ofNat 16 i) := by
        conv_lhs => rw [hsplit]
        rw [placeBytes_append, List.length_take_of_le h.le, placeBytes, stored_placeBytes_of_ne _ hlater]
    _ = vs[i] := by rw [State.stored_place, if_pos ⟨hstorage, rfl⟩]

/-- Going up from a storage address by less than a mirror's length, or from above RAM, meets no address of the same
canonical address. -/
theorem canon_ne_of_lt {a b : Word} (hstorage : (region a).isStorage = true) (hab : a.toNat < b.toNat)
    (h : b.toNat < a.toNat + 0x800 ∨ 0x2000 ≤ a.toNat) : canon b ≠ canon a := by
  rw [isStorage_region_iff] at hstorage
  intro heq
  have hval := congrArg BitVec.toNat heq
  rw [toNat_canon, toNat_canon] at hval
  split_ifs at hval <;> omega

/-- Settles O9. A program of at most $0800 bytes, or one above RAM, has no two bytes on one byte of storage, so each of
its bytes is the last to land where it lands. -/
theorem loadProgramIsAllOrNothing : Obligations.LoadProgramIsAllOrNothing := by
  intro s bytes origin
  refine ⟨fun hlong => if_pos hlong, fun hfits => ⟨placeBytes bytes origin s, if_neg (by omega),
    placeBytes_state bytes origin s, ?_, ?_, ?_⟩⟩
  · exact fun b => stored_placeBytes_of_ne s
  · intro hdistinct i hi hstorage
    have hval : ∀ k < bytes.length, (origin + BitVec.ofNat 16 k).toNat = origin.toNat + k := fun k hk => by
      rw [BitVec.toNat_add, BitVec.toNat_ofNat]; omega
    refine stored_placeBytes s hi hstorage fun j hij hj => ?_
    have hvali := hval i hi
    have hvalj := hval j hj
    exact canon_ne_of_lt hstorage (by omega) (by omega)
  · exact fun i hi => stored_placeBytes s hi

/-! ## Accesses to memory (O48, O49)

`Issues` says of an operation both what it adds to the record of transactions and that it stores nowhere else; one rule
per operation, and the accesses of an instruction are those of its parts in order. -/

/-- From `s` to `t` the record grows by the accesses `ks`, each a write or not and its address, and storage stays as it
was but where a write of `ks` lands. -/
def Issues (ks : List (Bool × Word)) (s t : State) : Prop :=
  t.bus.map kindOf = s.bus.map kindOf ++ ks
  ∧ ∀ b, (∀ a, (true, a) ∈ ks → (region a).isWritable = true → canon b ≠ canon a) → t.stored b = s.stored b

theorem Issues.nil {s t : State} (hbus : t.bus = s.bus) (hmem : t.mem = s.mem) : Issues [] s t :=
  ⟨by rw [hbus, List.append_nil], fun b _ => stored_congr hmem b⟩

theorem Issues.append {ks ls : List (Bool × Word)} {s t u : State} (hst : Issues ks s t) (htu : Issues ls t u) :
    Issues (ks ++ ls) s u := by
  obtain ⟨hbus, hmem⟩ := hst
  obtain ⟨hbus', hmem'⟩ := htu
  refine ⟨by rw [hbus', hbus, List.append_assoc], fun b hb => ?_⟩
  rw [hmem' b fun a ha => hb a (List.mem_append_right _ ha), hmem b fun a ha => hb a (List.mem_append_left _ ha)]

/-- What changes neither the record nor memory may follow. -/
theorem Issues.congr {ks : List (Bool × Word)} {s t u : State} (h : Issues ks s t) (hbus : u.bus = t.bus)
    (hmem : u.mem = t.mem) : Issues ks s u := by
  simpa using h.append (.nil hbus hmem)

theorem memRead_issues (a : Word) (s : State) : Issues [(false, a)] s (memRead a s).2 :=
  ⟨by simp [memRead_bus, kindOf], fun b _ => stored_congr (memRead_mem a s) b⟩

theorem memWrite_issues (a : Word) (v : Byte) (s : State) : Issues [(true, a)] s (memWrite a v s) := by
  refine ⟨by simp [kindOf], fun b hb => ?_⟩
  rw [stored_memWrite, if_neg fun h => hb a (by simp) h.1 h.2]

theorem readPair_issues (lo hi : Word) (s : State) : Issues [(false, lo), (false, hi)] s (readPair lo hi s).2 :=
  (memRead_issues lo s).append (memRead_issues hi _)

theorem push_issues (v : Byte) (s : State) : Issues [(true, stackAddr s.sp)] s (push v s) :=
  (memWrite_issues (stackAddr s.sp) v s).congr rfl rfl

theorem pull_issues (s : State) : Issues [(false, stackAddr (s.sp + 1#8))] s (pull s).2 :=
  memRead_issues (stackAddr (s.sp + 1#8)) (s.setSp (s.sp + 1#8))

/-- High byte first, downwards (20_memory.md R43). -/
theorem pushWord_issues (w : Word) (s : State) :
    Issues [(true, stackAddr s.sp), (true, stackAddr (s.sp - 1#8))] s (pushWord w s) := by
  simpa [pushWord] using (push_issues (hiByte w) s).append (push_issues (loByte w) _)

/-- Low byte first, upwards (20_memory.md R43). -/
theorem pullWord_issues (s : State) :
    Issues [(false, stackAddr (s.sp + 1#8)), (false, stackAddr (s.sp + 2#8))] s (pullWord s).2 := by
  simpa [pullWord, BitVec.add_assoc] using (pull_issues s).append (pull_issues (pull s).2)

theorem enterHandler_issues (ret : Word) (brk : Bool) (vector : Word) (s : State) :
    Issues [(true, stackAddr s.sp), (true, stackAddr (s.sp - 1#8)), (true, stackAddr (s.sp - 2#8)), (false, vector),
      (false, vector + 1#16)] s (enterHandler ret brk vector s) := by
  have pushes := (pushWord_issues ret s).append (push_issues (s.p.pack brk) (pushWord ret s))
  have masked := pushes.congr (u := (push (s.p.pack brk) (pushWord ret s)).setP { s.p with i := true }) rfl rfl
  have all := masked.append (readPair_issues vector (vector + 1#16) _)
  rw [pushWord_sp, BitVec.sub_sub] at all
  exact all.congr (by simp [enterHandler, read16]) (by simp [enterHandler])

theorem leaveHandler_issues (s : State) :
    Issues [(false, stackAddr (s.sp + 1#8)), (false, stackAddr (s.sp + 2#8)), (false, stackAddr (s.sp + 3#8))] s
      (leaveHandler s) := by
  have status := (pull_issues s).congr (u := (pull s).2.setP (s.p.unpack (pull s).1)) rfl rfl
  have all := status.append (pullWord_issues _)
  rw [State.setP_sp, pull_sp, BitVec.add_assoc, BitVec.add_assoc] at all
  exact all.congr (by simp [leaveHandler]) (by simp [leaveHandler])

/-- Resolving an address reads the pointer bytes of the mode (40_step_and_addressing.md R120). -/
theorem resolveAddr_issues (m : AddrMode) (s : State) : Issues (pointerReads m s) s (resolveAddr m s).st := by
  cases m with
  | zp | zpx | zpy | abs | abx | aby => exact .nil rfl rfl
  | ind ptr => exact readPair_issues ptr _ s
  | izx z => exact readPair_issues (zext16 (z + s.x)) _ s
  | izy z => exact readPair_issues (zext16 z) _ s

theorem pointerReads_advance (m : AddrMode) (s : State) (n : Nat) :
    pointerReads m (s.advance n) = pointerReads m s := by
  cases m <;> rfl

theorem loadSource_mem_issues (m : AddrMode) (s : State) :
    Issues (pointerReads m s ++ [(false, (resolveAddr m s).ea)]) s (loadSource (.mem m) s).st :=
  (resolveAddr_issues m s).append (memRead_issues _ _)

/-- One read, then one write of the same address (20_memory.md R46). -/
theorem modifyPlace_mem_issues (f : Modify) (m : AddrMode) (s : State) :
    Issues (pointerReads m s ++ [(false, (resolveAddr m s).ea), (true, (resolveAddr m s).ea)]) s
      (modifyPlace f (.mem m) s) := by
  let d := memRead (resolveAddr m s).ea (resolveAddr m s).st
  have write := memWrite_issues (resolveAddr m s).ea (f d.1 d.2.p).1 d.2
  have all := (loadSource_mem_issues m s).append write
  rw [List.append_assoc] at all
  exact all.congr rfl rfl

/-! ### The table of transactions, by operation -/

/-- The rows of R289 that the mnemonics of each operation have. -/
def Operation.HasClass : Operation → TimingClass → Prop
  | .load _, c => c = .load
  | .store _, c => c = .store
  | .modify _, c => c = .modify
  | _, c => ∃ n, c = .fixed n

theorem operation_hasClass (mn : Mnemonic) : (operation mn).HasClass (timingClass mn) := by
  cases mn <;> simp [operation, timingClass, Operation.HasClass]

theorem eq_jmp_of_operation {mn : Mnemonic} (h : operation mn = .jump) : mn = .jmp := by
  cases mn <;> simp [operation] at h ⊢

theorem eq_jsr_of_operation {mn : Mnemonic} (h : operation mn = .call) : mn = .jsr := by
  cases mn <;> simp [operation] at h ⊢

/-- The mnemonics whose instructions push or pull. -/
def stackMnemonics : List Mnemonic := [.pha, .php, .pla, .plp, .rts, .brk, .rti, .jsr]

theorem notMem_stackMnemonics {mn : Mnemonic} (himplied : ∀ f, operation mn ≠ .implied f)
    (hcall : operation mn ≠ .call) : mn ∉ stackMnemonics := by
  cases mn <;> simp [stackMnemonics, operation] at himplied hcall ⊢

/-- An instruction that neither names a memory operand nor uses the stack transacts nothing. -/
theorem transactions_eq_nil {i : Instr} (s : State) (hform : ∀ m, i.form ≠ .mem m)
    (hmn : i.mnemonic ∉ stackMnemonics) : transactions i s = [] := by
  simp only [transactions, storeAddresses]
  generalize i.form = fm at hform ⊢
  generalize i.mnemonic = mn at hmn ⊢
  cases fm with
  | mem m => exact absurd rfl (hform m)
  | imp | acc | imm | rel | ill => cases mn <;> simp [stackMnemonics] at hmn ⊢

/-! ### The accesses of an instruction -/

theorem target_eq {i : Instr} {m : AddrMode} (hform : i.form = .mem m) (s : State) :
    target i m s = resolveAddr m (s.advance m.length) := by
  rw [target, Instr.length, hform, Form.length]

theorem ChangesRegisters.bus {f : Byte → State → State} (hf : ChangesRegisters f) (v : Byte) (s : State) :
    (f v s).bus = s.bus := by
  obtain ⟨a, x, y, p, h, -⟩ := hf v s
  rw [h]

theorem RegistersOnly.bus {f : State → State} (hf : RegistersOnly f) (s : State) : (f s).bus = s.bus := by
  obtain ⟨a, x, y, sp, p, h, -⟩ := hf s
  rw [h]

theorem changesRegisters_of_operation {mn : Mnemonic} {f : Byte → State → State} (h : operation mn = .load f) :
    ChangesRegisters f := by
  cases mn with
  | adc | sbc | cmp | cpx | cpy | and | ora | eor | bit | lda | ldx | ldy =>
    exact Operation.load.inj h ▸ fun _ _ => ⟨_, _, _, _, rfl, rfl⟩
  | _ => cases h

theorem registersOnly_of_operation {mn : Mnemonic} {f : State → State} (h : operation mn = .implied f)
    (hmn : mn ∉ stackMnemonics) : RegistersOnly f := by
  cases mn with
  | pha | php | pla | plp | rts | brk | rti => exact absurd (by decide) hmn
  | inx | iny | dex | dey | tax | tay | txa | tya | tsx | txs | nop | clc | sec | cli | sei | cld | sed | clv =>
    exact Operation.implied.inj h ▸ fun _ => ⟨_, _, _, _, _, rfl, rfl⟩
  | _ => cases h

theorem pullA_issues (s : State) : Issues [(false, stackAddr (s.sp + 1#8))] s (pullA s) :=
  (pull_issues s).congr (by simp [pullA]) (by simp [pullA])

theorem pullP_issues (s : State) : Issues [(false, stackAddr (s.sp + 1#8))] s (pullP s) :=
  (pull_issues s).congr (by simp [pullP]) (by simp [pullP])

theorem returnFromSubroutine_issues (s : State) :
    Issues [(false, stackAddr (s.sp + 1#8)), (false, stackAddr (s.sp + 2#8))] s (returnFromSubroutine s) :=
  (pullWord_issues s).congr (by simp [returnFromSubroutine]) (by simp [returnFromSubroutine])

/-- The accesses of the pushes, the pulls, BRK, RTS and RTI. -/
theorem implied_issues_of_stack {i : Instr} {f : State → State} (hop : operation i.mnemonic = .implied f)
    (hform : i.form = .imp) (hmn : i.mnemonic ∈ stackMnemonics) (s : State) :
    Issues (transactions i s) s (f (s.advance 1)) := by
  simp only [transactions, storeAddresses, hform]
  generalize i.mnemonic = mn at hop hmn ⊢
  simp only [stackMnemonics, List.mem_cons, List.not_mem_nil, or_false] at hmn
  rcases hmn with rfl | rfl | rfl | rfl | rfl | rfl | rfl | rfl <;>
    simp only [operation, Operation.implied.injEq, reduceCtorEq] at hop <;> subst hop
  · exact push_issues _ (s.advance 1)
  · exact push_issues _ (s.advance 1)
  · exact pullA_issues (s.advance 1)
  · exact pullP_issues (s.advance 1)
  · exact returnFromSubroutine_issues (s.advance 1)
  · exact enterHandler_issues _ true Config.irqVector (s.advance 1)
  · exact leaveHandler_issues (s.advance 1)

/-- The accesses of an instruction with no operand, in the order of 40_step_and_addressing.md R120. -/
theorem implied_issues {i : Instr} {f : State → State} (hop : operation i.mnemonic = .implied f)
    (hform : i.form = .imp) (s : State) : Issues (transactions i s) s (f (s.advance 1)) := by
  by_cases hmn : i.mnemonic ∈ stackMnemonics
  · exact implied_issues_of_stack hop hform hmn s
  · have hf := registersOnly_of_operation hop hmn
    rw [transactions_eq_nil s (by simp [hform]) hmn]
    exact .nil (hf.bus _) (hf.mem _)

/-- The accesses of an instruction are those that the table lists for it. -/
theorem Means.issues {i : Instr} {s t : State} {r : StepResult} (means : Means i s r) (ht : r = .next t) :
    Issues (transactions i s) s t := by
  have hclass := operation_hasClass i.mnemonic
  cases means with
  | @load f src hop hform =>
    rw [hop, Operation.HasClass] at hclass
    have hf := changesRegisters_of_operation hop
    rw [← Host.Outcome.next.inj ht]
    cases src with
    | imm v =>
      rw [transactions_eq_nil s (by simp [hform, Source.form]) (notMem_stackMnemonics (by simp [hop]) (by simp [hop]))]
      exact .nil (hf.bus _ _) (hf.mem _ _)
    | mem m =>
      simp only [transactions, hclass, hform, Source.form]
      rw [target_eq hform, ← pointerReads_advance m s m.length]
      exact (loadSource_mem_issues m (s.advance m.length)).congr (hf.bus _ _) (hf.mem _ _)
  | @store v m hop hform =>
    rw [hop, Operation.HasClass] at hclass
    rw [← Host.Outcome.next.inj ht]
    simp only [transactions, hclass, hform]
    rw [target_eq hform, ← pointerReads_advance m s m.length]
    exact (resolveAddr_issues m (s.advance m.length)).append (memWrite_issues _ (v s) _)
  | @modify f pl hop hform =>
    rw [hop, Operation.HasClass] at hclass
    rw [← Host.Outcome.next.inj ht]
    cases pl with
    | acc =>
      rw [transactions_eq_nil s (by simp [hform, Place.form]) (notMem_stackMnemonics (by simp [hop]) (by simp [hop]))]
      exact .nil rfl rfl
    | mem m =>
      simp only [transactions, hclass, hform, Place.form]
      rw [target_eq hform, ← pointerReads_advance m s m.length]
      exact modifyPlace_mem_issues f m (s.advance m.length)
  | implied hop hform =>
    rw [← Host.Outcome.next.inj ht]
    exact implied_issues hop hform s
  | branch hop hform =>
    obtain ⟨w, n, hb, -⟩ := branchOp_next _ _ _ _
    rw [← Host.Outcome.next.inj (hb.symm.trans ht),
      transactions_eq_nil s (by simp [hform]) (notMem_stackMnemonics (by simp [hop]) (by simp [hop]))]
    exact .nil rfl rfl
  | @jump m hop hform =>
    rw [← Host.Outcome.next.inj ht]
    simp only [transactions, storeAddresses, eq_jmp_of_operation hop, timingClass, hform, List.map_nil,
      List.append_nil]
    rw [← pointerReads_advance m s m.length]
    exact resolveAddr_issues m (s.advance m.length)
  | @call m hop hform =>
    have accesses := (resolveAddr_issues m (s.advance m.length)).append
      (pushWord_issues ((resolveAddr m (s.advance m.length)).st.pc - 1#16) _)
    rw [pointerReads_advance, resolveAddr_sp] at accesses
    rw [← Host.Outcome.next.inj ht]
    simp only [transactions, storeAddresses, eq_jsr_of_operation hop, timingClass, hform, List.map_cons, List.map_nil]
    exact accesses
  | stop => cases ht

/-- Settles O49: the record's part of the accesses of an instruction. -/
theorem transactionsInOrder : Obligations.TransactionsInOrder := by
  intro i s t h
  obtain ⟨hbus, -⟩ := (exec_means i s).issues h
  exact hbus

/-! ### The writes among the accesses -/

theorem write_notMem_pointerReads (a : Word) (m : AddrMode) (s : State) : (true, a) ∉ pointerReads m s := by
  cases m <;> simp [pointerReads]

theorem storeAddresses_mem {i : Instr} {m : AddrMode} (s : State)
    (hclass : timingClass i.mnemonic = .store ∨ timingClass i.mnemonic = .modify) (hform : i.form = .mem m) :
    storeAddresses i s = [(target i m s).ea] := by
  simp only [storeAddresses, hform]
  revert hclass
  cases i.mnemonic <;> simp [timingClass]

/-- The table of transactions writes only where the table of stores says. -/
theorem mem_storeAddresses_of_write {i : Instr} {s : State} {a : Word} (h : (true, a) ∈ transactions i s) :
    a ∈ storeAddresses i s := by
  unfold transactions at h
  split at h
  · simp [write_notMem_pointerReads] at h
  · next m hclass hform =>
    simpa [write_notMem_pointerReads, storeAddresses_mem s (.inl hclass) hform] using h
  · next m hclass hform =>
    simpa [write_notMem_pointerReads, storeAddresses_mem s (.inr hclass) hform] using h
  · simpa [write_notMem_pointerReads] using h
  · split at h <;> simp at h <;> exact h

/-- Settles O48: storage's part of the accesses of an instruction. -/
theorem memoryFrame : Obligations.MemoryFrame := by
  intro i s t b h hb
  obtain ⟨-, hmem⟩ := (exec_means i s).issues h
  exact hmem b fun a ha hw => hb a (mem_storeAddresses_of_write ha) ((Region.isWritable_iff _).1 hw)

end Sys2Proof.Machine
end

section
/-! ## The encoding (O12, O13, O15)

`Cell.Codes` says of a cell of the opcode map that it is right for an opcode byte: it takes as many operand bytes as
the instructions it gives encode to. The map has such a cell at the opcode of every well-formed instruction, and every
opcode byte is the opcode of one, so both directions follow. -/

namespace Sys2Proof

/-- An instruction is as long as its opcode byte and operand bytes together (30_encoding.md R70, R71). -/
theorem length_encode (i : Instr) : (encode i).length = i.length := by
  rw [encode, List.length_cons, Instr.length]
  cases i.form with
  | mem m => cases m <;> rfl
  | imp | acc | imm | rel | ill => rfl

/-! ### A cell, read -/

/-- `Cell.Codes b c i`: the cell `c` gives `i`, and what it gives, for whatever operand, is a well-formed instruction
whose bytes are the opcode byte `b` and that operand. -/
inductive Cell.Codes (b : Byte) : Cell → Instr → Prop where
  | ill (h : b ∈ unimplementedOpcodes) : Codes b .ill (.ill b)
  | one {i : Instr} (hwf : i.wf = true) (henc : encode i = [b]) : Codes b (.one i) i
  | two {f : Byte → Instr} (v : Byte) (hwf : ∀ u, (f u).wf = true) (henc : ∀ u, encode (f u) = [b, u]) :
      Codes b (.two f) (f v)
  | three {f : Word → Instr} (w : Word) (hwf : ∀ u, (f u).wf = true)
      (henc : ∀ u, encode (f u) = [b, loByte u, hiByte u]) : Codes b (.three f) (f w)

theorem Cell.Codes.wf {b : Byte} {c : Cell} {i : Instr} (h : c.Codes b i) : i.wf = true := by
  cases h with
  | ill h => exact List.contains_iff_mem.2 h
  | one hwf => exact hwf
  | two v hwf => exact hwf v
  | three w hwf => exact hwf w

/-- The decoder undoes the encoder where the map has the cell for the instruction. -/
theorem Cell.Codes.decodeBytes_encode {b : Byte} {i : Instr} (h : (lookup b).Codes b i) (rest : List Byte) :
    decodeBytes (encode i ++ rest) = .ok (i, rest) := by
  generalize hc : lookup b = c at h
  cases h with
  | ill => simp [encode, Instr.opcode, Instr.form, Form.operandBytes, decodeBytes, hc]
  | one _ henc => simp [henc, decodeBytes, hc]
  | two v _ henc => simp [henc, decodeBytes, hc]
  | three w _ henc => simp [henc, decodeBytes, hc]

/-- A cell that codes one instruction codes the instruction that the decoder reads, whatever the operand bytes. -/
theorem Cell.Codes.codes_decode {b : Byte} {i : Instr} (h : (lookup b).Codes b i) (b1 b2 : Byte) :
    (lookup b).Codes b (decode b b1 b2) := by
  unfold decode
  generalize lookup b = c at h ⊢
  cases h with
  | ill h => exact .ill h
  | one hwf henc => exact .one hwf henc
  | two _ hwf henc => exact .two b1 hwf henc
  | three _ hwf henc => exact .three (mkWord b2 b1) hwf henc

/-- The encoder undoes the decoder: it gives the first of the bytes. -/
theorem Cell.Codes.encode_decode_prefix {b b1 b2 : Byte} {i : Instr} (h : (lookup b).Codes b i) :
    encode (decode b b1 b2) <+: [b, b1, b2] := by
  unfold decode
  generalize lookup b = c at h ⊢
  cases h with
  | ill => exact ⟨[b1, b2], rfl⟩
  | one _ henc => exact ⟨[b1, b2], by simp [henc]⟩
  | two _ _ henc => exact ⟨[b2], by simp [henc]⟩
  | three _ _ henc => exact ⟨[], by simp [henc]⟩

/-! ### The map, cell by cell -/

/-- R77 lists only unimplemented cells of the map of R74: of the cells of `lookup_cases`, the others decode to an
instruction with a mnemonic of its own. -/
theorem lookup_of_unimplemented {b : Byte} (h : b ∈ unimplementedOpcodes) : lookup b = .ill := by
  have hill : ∀ b ∈ unimplementedOpcodes, (decode b 0 0).mnemonic = .ill := by decide
  have hb := hill b h
  rcases Machine.lookup_cases b with ⟨i, hc, -, hne⟩ | ⟨f, hc, hne⟩ | ⟨f, hc, hne⟩ | ⟨hc, -⟩
  · exact absurd (by simpa [decode, hc] using hb) hne
  · exact absurd (by simpa [decode, hc] using hb) (hne _).2
  · exact absurd (by simpa [decode, hc] using hb) (hne _).2
  · exact hc

/-- The map of 30_encoding.md R74 has, at the opcode that R75 lists for an instruction, the cell that codes it; the
groups are the lengths of R71. -/
theorem lookup_opcode_codes {i : Instr} (h : i.wf = true) : (lookup i.opcode).Codes i.opcode i := by
  cases i with
  | ill b =>
    have hb : b ∈ unimplementedOpcodes := List.contains_iff_mem.1 h
    exact (lookup_of_unimplemented hb).symm ▸ .ill hb
  | inx | iny | dex | dey | aslAcc | lsrAcc | rolAcc | rorAcc | rts | tax | tay | txa | tya | tsx | txs | pha | php
  | pla | plp | brk | rti | nop | clc | sec | cli | sei | cld | sed | clv => exact .one rfl rfl
  | adcImm | adcZp | adcZpx | adcIzx | adcIzy | sbcImm | sbcZp | sbcZpx | sbcIzx | sbcIzy | cmpImm | cmpZp | cmpZpx
  | cmpIzx | cmpIzy | cpxImm | cpxZp | cpyImm | cpyZp | incZp | incZpx | decZp | decZpx | andImm | andZp | andZpx
  | andIzx | andIzy | oraImm | oraZp | oraZpx | oraIzx | oraIzy | eorImm | eorZp | eorZpx | eorIzx | eorIzy | bitZp
  | aslZp | aslZpx | lsrZp | lsrZpx | rolZp | rolZpx | rorZp | rorZpx | bcc | bcs | beq | bne | bmi | bpl | bvc | bvs
  | ldaImm | ldaZp | ldaZpx | ldaIzx | ldaIzy | ldxImm | ldxZp | ldxZpy | ldyImm | ldyZp | ldyZpx | staZp | staZpx
  | staIzx | staIzy | stxZp | stxZpy | styZp | styZpx =>
    dsimp only [Instr.opcode]
    exact .two _ (fun _ => by rfl) fun _ => by rfl
  | adcAbs | adcAbx | adcAby | sbcAbs | sbcAbx | sbcAby | cmpAbs | cmpAbx | cmpAby | cpxAbs | cpyAbs | incAbs | incAbx
  | decAbs | decAbx | andAbs | andAbx | andAby | oraAbs | oraAbx | oraAby | eorAbs | eorAbx | eorAby | bitAbs | aslAbs
  | aslAbx | lsrAbs | lsrAbx | rolAbs | rolAbx | rorAbs | rorAbx | jmpAbs | jmpInd | jsr | ldaAbs | ldaAbx | ldaAby
  | ldxAbs | ldxAby | ldyAbs | ldyAbx | staAbs | staAbx | staAby | stxAbs | styAbs =>
    dsimp only [Instr.opcode]
    exact .three _ (fun _ => by rfl) fun _ => by rfl

/-- Every opcode byte is the opcode of a well-formed instruction: of the one that it decodes to with zero operand
bytes (30_encoding.md R73). -/
theorem decode_zero_opcode : ∀ b : Byte, (decode b 0 0).wf = true ∧ (decode b 0 0).opcode = b := by
  decide

/-- The map has at every opcode byte a cell that codes what the decoder reads there. -/
theorem lookup_codes_decode (b b1 b2 : Byte) : (lookup b).Codes b (decode b b1 b2) := by
  obtain ⟨hwf, hopcode⟩ := decode_zero_opcode b
  have hcodes := lookup_opcode_codes hwf
  rw [hopcode] at hcodes
  exact hcodes.codes_decode b1 b2

/-- Settles O12: the map has the cell for `i` at its opcode. -/
theorem decodeOfEncodeIsTheInstruction : Obligations.DecodeOfEncodeIsTheInstruction :=
  fun _ rest h => (lookup_opcode_codes h).decodeBytes_encode rest

/-- Settles O13: the map has a right cell at every opcode byte, and the length counts the bytes of the encoding. -/
theorem encodeOfDecodeIsTheBytes : Obligations.EncodeOfDecodeIsTheBytes := by
  intro b0 b1 b2
  have hcodes := lookup_codes_decode b0 b1 b2
  refine ⟨hcodes.wf, ?_⟩
  rw [← length_encode]
  exact List.prefix_iff_eq_take.1 hcodes.encode_decode_prefix

/-- Settles O15: each of these byte strings is the encoding of its instruction, with no byte after it. -/
theorem wordsOfTheSpecDecode : Obligations.WordsOfTheSpecDecode :=
  have decodes (i : Instr) (h : i.wf = true) : decodeBytes (encode i ++ []) = .ok (i, []) :=
    decodeOfEncodeIsTheInstruction i [] h
  ⟨decodes (.ldaImm 0x42) rfl, decodes (.ldaAbx 0x20FF) rfl, decodes (.jmpInd 0x02FF) rfl, decodes (.jsr 0x1234) rfl,
    decodes (.bne 0xFB) rfl, decodes .aslAcc rfl, decodes (.stxZpy 0x10) rfl, decodes (.staIzy 0x10) rfl,
    decodes (.ldaIzx 0x20) rfl, decodes .brk rfl, decodes .rti rfl, decodes (.ill 0x02) (by decide)⟩

end Sys2Proof
end

section
/-! ## Addressing modes and the step (O16, O17, O19, O50, O51, O59)

The addressing modes are said on numbers. `OnlyReads` says of each read of an operand that it changes the model's own
fields alone. `fetchAt_cases` says once what a fetch does; from it follow what a fetch reads, what it decodes from
storage, and which instruction a step runs. The cycles of a step follow from the shape of its instruction. -/

namespace Sys2Proof

/-! ### Zero extension -/

theorem zext16_eq_ofNat (v : Byte) : zext16 v = BitVec.ofNat 16 v.toNat :=
  (BitVec.ofNat_toNat 16 v).symm

@[simp] theorem toNat_zext16 (v : Byte) : (zext16 v).toNat = v.toNat :=
  BitVec.toNat_setWidth_of_le (by decide)

/-- A sum of bytes, zero-extended, is the sum modulo 256 (40_step_and_addressing.md R110, R111). -/
theorem zext16_add (z index : Byte) :
    zext16 (z + index) = BitVec.ofNat 16 ((z.toNat + index.toNat) % 256) := by
  rw [zext16_eq_ofNat, BitVec.toNat_add]

theorem toNat_zext16_lt (v : Byte) : (zext16 v).toNat < 256 := by
  rw [toNat_zext16]
  exact v.isLt

/-! ### The length of what is decoded -/

theorem Cell.length_le (c : Cell) : c.length ≤ 3 := by
  cases c <;> simp [Cell.length]

theorem Cell.length_pos (c : Cell) : 0 < c.length := by
  cases c <;> simp [Cell.length]

/-- A cell has the length of the instructions it codes. -/
theorem Cell.Codes.length_eq {b : Byte} {c : Cell} {i : Instr} (h : c.Codes b i) : i.length = c.length := by
  cases h with
  | ill => rfl
  | one _ henc => rw [← length_encode, henc, Cell.length, List.length_singleton]
  | two v _ henc => simp [← length_encode, henc, Cell.length]
  | three w _ henc => simp [← length_encode, henc, Cell.length]

/-- The opcode byte alone gives the length (30_encoding.md R70). -/
theorem length_decode (b b1 b2 : Byte) : (decode b b1 b2).length = lengthOf b :=
  (lookup_codes_decode b b1 b2).length_eq

theorem length_eq_lengthOf_opcode {i : Instr} (hwf : i.wf = true) : i.length = lengthOf i.opcode :=
  (lookup_opcode_codes hwf).length_eq

/-- Where the map has the cell for the instruction, the decoder reads it from bytes that begin with its encoding. -/
theorem Cell.Codes.decode_of_encode_prefix {b b1 b2 : Byte} {i : Instr} (h : (lookup b).Codes b i)
    (hbytes : encode i <+: [b, b1, b2]) : decode b b1 b2 = i := by
  unfold decode
  generalize lookup b = c at h
  cases h with
  | ill => rfl
  | one => rfl
  | two v _ henc =>
    obtain rfl : v = b1 := by simpa [henc] using hbytes
    rfl
  | three w _ henc =>
    obtain ⟨rfl, rfl⟩ : loByte w = b1 ∧ hiByte w = b2 := by simpa [henc] using hbytes
    exact congrArg _ (mkWord_hiByte_loByte w)

/-- The decoder reads a well-formed instruction from its bytes, whatever bytes come after them. -/
theorem decode_of_encode_prefix {b b1 b2 : Byte} {i : Instr} (hwf : i.wf = true)
    (hbytes : encode i <+: [b, b1, b2]) : decode b b1 b2 = i := by
  have hopcode : i.opcode = b := (List.cons_prefix_cons.1 hbytes).1
  subst hopcode
  exact (lookup_opcode_codes hwf).decode_of_encode_prefix hbytes

namespace Machine

open Claims

/-! ### The addressing modes -/

/-- Settles O16: the sum of the operand byte and the index register is taken in 8 bits and then extended. -/
theorem zeroPageModesStayInPageZero : Obligations.ZeroPageModesStayInPageZero := by
  intro s z
  refine ⟨?_, ?_, ?_, toNat_zext16_lt _, toNat_zext16_lt _⟩
  · rw [resolveAddr, zext16_eq_ofNat]
  · rw [resolveAddr, zext16_add]
  · rw [resolveAddr, zext16_add]

theorem toNat_add_zext16 (base : Word) (index : Byte) :
    (base + zext16 index).toNat = (base.toNat + index.toNat) % 65536 := by
  rw [BitVec.toNat_add, toNat_zext16]

/-- Adding an index changes the page exactly where the low byte overflows (40_step_and_addressing.md R113, R114). -/
theorem pageCrossed_add_zext16 (base : Word) (index : Byte) :
    pageCrossed base (base + zext16 index) = decide (255 < base.toNat % 256 + index.toNat) := by
  have hbase := base.isLt
  have hindex := index.isLt
  rw [Bool.eq_iff_iff, pageCrossed_iff, toNat_add_zext16, decide_eq_true_iff]
  omega

/-- An indexed address, said on numbers (40_step_and_addressing.md R113, R114, R117). -/
theorem indexed_eq (base : Word) (index : Byte) (s : State) :
    indexed base index s =
      { ea := BitVec.ofNat 16 ((base.toNat + index.toNat) % 65536)
        crossed := decide (255 < base.toNat % 256 + index.toNat), st := s } := by
  rw [indexed, pageCrossed_add_zext16, ← toNat_add_zext16, BitVec.ofNat_toNat, BitVec.setWidth_eq]

/-- Settles O17: `indexed` on numbers, and its crossing as a change of page. -/
theorem absoluteModesWrapAndReportCrossing : Obligations.AbsoluteModesWrapAndReportCrossing := fun s base =>
  ⟨rfl, indexed_eq base s.x s, indexed_eq base s.y s, pageCrossed_iff _ _, pageCrossed_iff _ _⟩

/-! ### Reads change the model's own fields alone -/

/-- From `s` to `t` only the count of draws and the record of transactions may have changed. -/
def OnlyReads (s t : State) : Prop := t = { s with draws := t.draws, bus := t.bus }

theorem OnlyReads.refl (s : State) : OnlyReads s s := rfl

theorem OnlyReads.trans {s t u : State} (hst : OnlyReads s t) (htu : OnlyReads t u) : OnlyReads s u := by
  rw [OnlyReads, hst] at htu
  exact htu

theorem memRead_onlyReads (a : Word) (s : State) : OnlyReads s (memRead a s).2 := by
  unfold memRead
  split <;> rfl

theorem readPair_onlyReads (lo hi : Word) (s : State) : OnlyReads s (readPair lo hi s).2 :=
  (memRead_onlyReads lo s).trans (memRead_onlyReads hi _)

theorem resolveAddr_onlyReads (m : AddrMode) (s : State) : OnlyReads s (resolveAddr m s).st := by
  cases m with
  | zp | zpx | zpy | abs | abx | aby => exact .refl s
  | ind ptr => exact readPair_onlyReads ptr _ s
  | izx z => exact readPair_onlyReads (zext16 (z + s.x)) _ s
  | izy z => exact readPair_onlyReads (zext16 z) _ s

theorem loadSource_onlyReads (src : Source) (s : State) : OnlyReads s (loadSource src s).st := by
  cases src with
  | imm => exact .refl s
  | mem m => exact (resolveAddr_onlyReads m s).trans (memRead_onlyReads _ _)

/-- Settles O19: the reads of an operand change nothing else; what is loaded is so by definition. -/
theorem operandResolutionWritesNoState : Obligations.OperandResolutionWritesNoState := fun s m _ =>
  ⟨resolveAddr_onlyReads m s, loadSource_onlyReads (.mem m) s, rfl, rfl, rfl⟩

/-! ### The fetch -/

/-- What a fetch reads and decodes, by the length that the opcode byte gives (40_step_and_addressing.md R102). A byte
past the instruction's own has no effect on the decoder. -/
theorem fetchAt_cases (addr : Word) (s : State) :
    let b0 := memRead addr s
    let b1 := memRead (addr + 1#16) b0.2
    let b2 := memRead (addr + 2#16) b1.2
    (lengthOf b0.1 = 1 ∧ ∀ v1 v2, fetchAt addr s = (decode b0.1 v1 v2, b0.2))
    ∨ (lengthOf b0.1 = 2 ∧ ∀ v2, fetchAt addr s = (decode b0.1 b1.1 v2, b1.2))
    ∨ (lengthOf b0.1 = 3 ∧ fetchAt addr s = (decode b0.1 b1.1 b2.1, b2.2)) := by
  intro b0 b1 b2
  unfold fetchAt lengthOf decode
  cases hcell : lookup b0.1 with
  | ill | one => exact .inl ⟨rfl, fun _ _ => by simp [b0, hcell, Cell.length]⟩
  | two => exact .inr (.inl ⟨rfl, fun _ => by simp [b0, b1, hcell, Cell.length]⟩)
  | three => exact .inr (.inr ⟨rfl, by simp [b0, b1, b2, hcell, Cell.length]⟩)

/-- A fetch reads the instruction's own bytes, opcode first, whether or not they are storage
(40_step_and_addressing.md R102, R120). -/
theorem fetchAt_issues (addr : Word) (s : State) :
    Issues (fetchReads addr (fetchAt addr s).1.length) s (fetchAt addr s).2 := by
  have read0 := memRead_issues addr s
  have read1 := read0.append (memRead_issues (addr + 1#16) _)
  have read2 := read1.append (memRead_issues (addr + 2#16) _)
  rcases fetchAt_cases addr s with ⟨hlen, hfetch⟩ | ⟨hlen, hfetch⟩ | ⟨hlen, hfetch⟩
  · rw [hfetch 0 0, length_decode, hlen]
    simpa [fetchReads] using read0
  · rw [hfetch 0, length_decode, hlen]
    simpa [fetchReads] using read1
  · rw [hfetch, length_decode, hlen]
    simpa [fetchReads] using read2

/-- A fetch whose bytes all lie in storage decodes the stored bytes and changes the record alone. -/
theorem fetchAt_of_storage {addr : Word} {s : State}
    (hstorage : ∀ k < lengthOf (s.stored addr), (region (addr + BitVec.ofNat 16 k)).isStorage = true) :
    ∃ log, fetchAt addr s
      = (decode (s.stored addr) (s.stored (addr + 1#16)) (s.stored (addr + 2#16)), { s with bus := log }) := by
  have h0 : (region addr).isStorage = true := by simpa using hstorage 0 (Cell.length_pos _)
  have hfetch := fetchAt_cases addr s
  simp only [memRead_storage h0] at hfetch
  rcases hfetch with ⟨-, hfetch⟩ | ⟨hlen, hfetch⟩ | ⟨hlen, hfetch⟩
  · exact ⟨_, hfetch _ _⟩
  · have h1 := hstorage 1 (by omega)
    simp only [memRead_storage h1] at hfetch
    exact ⟨_, hfetch _⟩
  · have h1 := hstorage 1 (by omega)
    have h2 := hstorage 2 (by omega)
    simp only [memRead_storage h1, memRead_storage h2] at hfetch
    exact ⟨_, hfetch⟩

/-- Where the longest instruction lies in storage, so does every shorter one. -/
theorem isStorage_of_fetchesFromStorage {addr : Word} (h : fetchesFromStorage addr = true) :
    ∀ k < 3, (region (addr + BitVec.ofNat 16 k)).isStorage = true := by
  simp only [fetchesFromStorage, Bool.and_eq_true] at h
  obtain ⟨⟨h0, h1⟩, h2⟩ := h
  intro k hk
  interval_cases k
  · simpa using h0
  · exact h1
  · exact h2

/-- Settles O50: a fetch from storage, and what a fetch adds to the record. -/
theorem fetchReadsTheInstructionAtPc : Obligations.FetchReadsTheInstructionAtPc := by
  intro s h
  obtain ⟨log, hfetch⟩ : ∃ log, fetch s = (decode (s.stored s.pc) (s.stored (s.pc + 1#16)) (s.stored (s.pc + 2#16)),
      { s with bus := log }) :=
    fetchAt_of_storage fun k hk => isStorage_of_fetchesFromStorage h k (hk.trans_le (Cell.length_le _))
  obtain ⟨hbus, -⟩ := fetchAt_issues s.pc s
  exact ⟨by rw [hfetch], by rw [hfetch], hbus⟩

/-! ### The step -/

/-- With no interrupt to service, a step is the instruction at PC (40_step_and_addressing.md R101). -/
theorem step_of_not_serviced {s : State} (hnmi : s.nmiPending = false) (hirq : irqServiceable s = false) :
    step s = exec (fetch s.clearBus).1 (fetch s.clearBus).2 := by
  have hirq' : irqServiceable s.clearBus = false := hirq
  simp only [step, State.clearBus_nmiPending, hnmi, hirq', Bool.false_eq_true, if_false]

/-- Where the bytes of `i` stand, the three bytes there begin with its encoding. -/
theorem encode_prefix_of_stored {i : Instr} (hwf : i.wf = true) {addr : Word} {s : State}
    (hbytes : ∀ (k : Nat) (hk : k < (encode i).length), s.stored (addr + BitVec.ofNat 16 k) = (encode i)[k]) :
    encode i <+: [s.stored addr, s.stored (addr + 1#16), s.stored (addr + 2#16)] := by
  have hlen : (encode i).length ≤ 3 := by
    rw [length_encode, length_eq_lengthOf_opcode hwf]
    exact Cell.length_le _
  refine List.prefix_iff_getElem.2 ⟨hlen, fun k hk => (hbytes k hk).symm.trans ?_⟩
  match k, hk.trans_le hlen with
  | 0, _ => exact congrArg s.stored (BitVec.add_zero addr)
  | 1, _ => rfl
  | 2, _ => rfl

/-- Settles O51: the fetch reads the bytes of `i` from storage, and the decoder undoes the encoder. -/
theorem stepRunsTheDecodedInstruction : Obligations.StepRunsTheDecodedInstruction := by
  intro s hnmi hirq
  have hserviced : irqServiceable s = false := by
    rcases hirq with h | h <;> simp [irqServiceable, h]
  have hstep := step_of_not_serviced hnmi hserviced
  refine ⟨hstep, fun i hwf hbytes => ?_⟩
  have hprefix := encode_prefix_of_stored hwf fun k hk => (hbytes k hk).2
  have hopcode : i.opcode = s.stored s.pc := (List.cons_prefix_cons.1 hprefix).1
  have hlen : lengthOf (s.stored s.pc) = (encode i).length := by
    rw [← hopcode, length_encode, length_eq_lengthOf_opcode hwf]
  obtain ⟨log, hfetch⟩ := fetchAt_of_storage (addr := s.pc) (s := s.clearBus)
    fun k hk => (hbytes k (hk.trans_eq hlen)).1
  have hdecode : decode (s.stored s.pc) (s.stored (s.pc + 1#16)) (s.stored (s.pc + 2#16)) = i :=
    decode_of_encode_prefix hwf hprefix
  refine ⟨log, ?_⟩
  calc step s = exec (fetchAt s.pc s.clearBus).1 (fetchAt s.pc s.clearBus).2 := hstep
    _ = exec (decode (s.stored s.pc) (s.stored (s.pc + 1#16)) (s.stored (s.pc + 2#16))) { s with bus := log } := by
        rw [hfetch]; rfl
    _ = exec i { s with bus := log } := by rw [hdecode]

/-! ### Cycles -/

theorem ChangesRegisters.cycles {f : Byte → State → State} (hf : ChangesRegisters f) (v : Byte) (s : State) :
    (f v s).cycles = s.cycles := by
  obtain ⟨a, x, y, p, h, -⟩ := hf v s
  rw [h]

theorem RegistersOnly.cycles {f : State → State} (hf : RegistersOnly f) (s : State) :
    (f s).cycles = s.cycles := by
  obtain ⟨a, x, y, sp, p, h, -⟩ := hf s
  rw [h]

theorem crossPenalty_le (marked crossed : Bool) : crossPenalty marked crossed ≤ 1 := by
  unfold crossPenalty
  split <;> decide

theorem readOp_cycles {f : Byte → State → State} (hf : ChangesRegisters f) {src : Source} {n : Nat} {marked : Bool}
    {s t : State} (ht : readOp f src n marked s = .next t) :
    ∃ penalty, penalty ≤ 1 ∧ t.cycles = s.cycles + (n + penalty) := by
  refine ⟨_, crossPenalty_le marked (loadSource src (s.advance src.form.length)).crossed, ?_⟩
  rw [← Host.Outcome.next.inj ht, State.charge_cycles, hf.cycles, loadSource_cycles, State.advance_cycles]

theorem impliedOp_cycles {f : State → State} (hf : ∀ s : State, (f s).cycles = s.cycles) {n : Nat} {s t : State}
    (ht : impliedOp f n s = .next t) : t.cycles = s.cycles + n := by
  rw [← Host.Outcome.next.inj ht, State.charge_cycles, hf, State.advance_cycles]

/-- An instruction charges the base cycles of its row, at most 7, and a load or a branch its penalty on top
(40_step_and_addressing.md R104). -/
theorem exec_cycles {i : Instr} {s t : State} (ht : exec i s = .next t) :
    ∃ n, t.cycles = s.cycles + n ∧ 2 ≤ n ∧ n ≤ 7 := by
  rcases exec_shape i s with ⟨_, _, n, _, hf, hlo, hhi, e⟩ | ⟨_, _, n, hlo, hhi, e⟩
    | ⟨_, _, n, -, hlo, hhi, e⟩ | ⟨f, hf, e⟩ | (e | e | e | e | e | e | e) | ⟨_, _, e⟩ | ⟨_, n, hlo, hhi, e⟩
    | ⟨_, e⟩ | ⟨_, -, e⟩ <;> rw [e] at ht
  · -- an operand is loaded
    obtain ⟨penalty, hpenalty, hcycles⟩ := readOp_cycles hf ht
    exact ⟨n + penalty, hcycles, by omega, by omega⟩
  · -- a store
    exact ⟨n, by rw [← Host.Outcome.next.inj ht]; simp, by omega, by omega⟩
  · -- a read-modify-write
    exact ⟨n, by rw [← Host.Outcome.next.inj ht]; simp, hlo, hhi⟩
  · exact ⟨2, impliedOp_cycles hf.cycles ht, by decide, by decide⟩
  · exact ⟨3, impliedOp_cycles (f := pushA) (by simp [pushA]) ht, by decide, by decide⟩
  · exact ⟨3, impliedOp_cycles (f := pushP) (by simp [pushP]) ht, by decide, by decide⟩
  · exact ⟨4, impliedOp_cycles (f := pullA) (by simp [pullA]) ht, by decide, by decide⟩
  · exact ⟨4, impliedOp_cycles (f := pullP) (by simp [pullP]) ht, by decide, by decide⟩
  · exact ⟨6, impliedOp_cycles (f := returnFromSubroutine) (by simp [returnFromSubroutine]) ht, by decide, by decide⟩
  · exact ⟨7, impliedOp_cycles (f := softwareInterrupt) (by simp [softwareInterrupt]) ht, by decide, by decide⟩
  · exact ⟨6, impliedOp_cycles (f := returnFromInterrupt) (by simp [returnFromInterrupt]) ht, by decide, by decide⟩
  · -- a branch
    obtain ⟨w, n, hb, hn⟩ := branchOp_next _ _ _ _
    exact ⟨2 + n, by rw [← Host.Outcome.next.inj (hb.symm.trans ht)], by omega, by omega⟩
  · -- a jump
    exact ⟨n, by rw [← Host.Outcome.next.inj ht]; simp, by omega, by omega⟩
  · -- the subroutine call
    exact ⟨6, by rw [← Host.Outcome.next.inj ht]; simp, by decide, by decide⟩
  · cases ht

/-- A step that goes on charges 7 cycles for a service, and what its instruction charges otherwise. -/
theorem step_cycles {s t : State} (ht : step s = .next t) : ∃ n, t.cycles = s.cycles + n ∧ 2 ≤ n ∧ n ≤ 7 := by
  rcases step_cases ht with ⟨-, rfl⟩ | ⟨-, -, rfl⟩ | ⟨-, -, ht⟩
  · exact ⟨7, by simp [serviceNmi, serviceCycles], by decide, by decide⟩
  · exact ⟨7, by simp [serviceIrq, serviceCycles], by decide, by decide⟩
  · simpa using exec_cycles ht

/-- Settles O59: the bounds on what a step charges. -/
theorem stepChargesTwoToSevenCycles : Obligations.StepChargesTwoToSevenCycles := by
  intro s t ht
  obtain ⟨n, hcycles, hlo, hhi⟩ := step_cycles ht
  omega

end Machine
end Sys2Proof
end

section
/-! ## Arithmetic (O20, O21, O23, O24, O25)

What `exec` answers is said once per shape, in the terms of the statements: a load runs its mnemonic's operation on
`operand`, a compare is `afterCompare`, a read-modify-write is `afterModify`. What remains of each obligation is its
operation: the adder, the flags and the counting, which are said on numbers. -/

namespace Sys2Proof.Machine

open Claims

/-! ### SetZN and bytes, said on numbers -/

/-- The sign bit of a byte, tested by the mask $80. -/
theorem and_0x80_ne_zero (r : Byte) : (r &&& 0x80#8 != 0x00#8) = r.getLsbD 7 := by
  rw [show 0x80#8 = BitVec.twoPow 8 7 from rfl, BitVec.and_twoPow]
  cases r.getLsbD 7 <;> rfl

/-- Bit 7 of a byte is set from 128 on. -/
theorem getLsbD_seven (r : Byte) : r.getLsbD 7 = decide (128 ≤ r.toNat) :=
  r.msb_eq_getLsbD_last.symm.trans r.msb_eq_decide

/-- SetZN, tested on the bits or on the number (10_state.md R16). -/
theorem Status.setZN_eq_zn (p : Status) (v : Byte) : p.setZN v = zn p v := by
  have hzero : (v == 0x00#8) = decide (v.toNat = 0) := by
    rw [Bool.eq_iff_iff, beq_iff_eq, decide_eq_true_iff, ← BitVec.toNat_inj, BitVec.toNat_zero]
  rw [Status.setZN, zn, hzero, getLsbD_seven]

/-- One more, modulo 256. -/
theorem add_one_eq_ofNat (v : Byte) : v + 1#8 = BitVec.ofNat 8 (v.toNat + 1) := by
  rw [BitVec.ofNat_add, BitVec.ofNat_toNat, BitVec.setWidth_eq]

/-- One less, modulo 256. -/
theorem sub_one_eq_ofNat (v : Byte) : v - 1#8 = BitVec.ofNat 8 (v.toNat + 255) := by
  rw [BitVec.ofNat_add, BitVec.ofNat_toNat, BitVec.setWidth_eq, BitVec.sub_eq_add_neg]
  rfl

/-- A difference of bytes, modulo 256. -/
theorem sub_eq_ofInt (r m : Byte) : r - m = BitVec.ofInt 8 (r.toNat - m.toNat) := by
  have hr := r.isLt
  have hm := m.isLt
  apply BitVec.eq_of_toNat_eq
  rw [BitVec.toNat_sub, BitVec.toNat_ofInt]
  omega

/-! ### The shapes of the statements -/

@[simp] theorem operand_st_a (i : Instr) (src : Source) (s : State) : (operand i src s).st.a = s.a := by simp [operand]
@[simp] theorem operand_st_x (i : Instr) (src : Source) (s : State) : (operand i src s).st.x = s.x := by simp [operand]
@[simp] theorem operand_st_y (i : Instr) (src : Source) (s : State) : (operand i src s).st.y = s.y := by simp [operand]
@[simp] theorem operand_st_p (i : Instr) (src : Source) (s : State) : (operand i src s).st.p = s.p := by simp [operand]
@[simp] theorem operand_st_cycles (i : Instr) (src : Source) (s : State) :
    (operand i src s).st.cycles = s.cycles := by simp [operand]

/-- The cycles of a row with its page-crossing penalty (40_step_and_addressing.md R104). -/
theorem rowCycles_eq (i : Instr) (crossed : Bool) :
    rowCycles i crossed = baseCycles i + crossPenalty (markedPlus i) crossed := by
  simp only [rowCycles, crossPenalty, Bool.and_eq_true]

/-- An instruction of a loading mnemonic runs the mnemonic's operation on its operand. -/
theorem exec_of_load {i : Instr} {f : Byte → State → State} (hop : operation i.mnemonic = .load f) (s : State) :
    ∃ src : Source, i.form = src.form ∧
      exec i s = .next ((f (operand i src s).val (operand i src s).st).charge
        (rowCycles i (operand i src s).crossed)) := by
  have means := exec_means i s
  generalize exec i s = r at means ⊢
  cases means with
  | load hop' hform =>
    obtain rfl := Operation.load.inj (hop.symm.trans hop')
    refine ⟨_, hform, ?_⟩
    rw [rowCycles_eq, operand, Instr.length, hform]
    rfl
  | _ hop' => cases hop.symm.trans hop'

/-- What the statements call a load of A: A and P are written and the row's cycles charged. -/
theorem charge_eq_afterLoadA (i : Instr) (src : Source) (s : State) (a : Byte) (p : Status) :
    State.charge { (operand i src s).st with a := a, p := p } (rowCycles i (operand i src s).crossed)
      = afterLoadA i (operand i src s) s a p := by
  simp [State.charge, afterLoadA]

/-- Where the operation compares a register with the operand, the instruction is a compare of the statements. -/
theorem exec_eq_afterCompare {i : Instr} {f : Byte → State → State} {s : State} {r : Byte}
    (hop : operation i.mnemonic = .load f)
    (hf : ∀ src, f (operand i src s).val (operand i src s).st
      = (operand i src s).st.setP (s.p.compare r (operand i src s).val)) :
    ∃ src : Source, i.form = src.form ∧ exec i s = .next (afterCompare i (operand i src s) s r) := by
  obtain ⟨src, hform, hexec⟩ := exec_of_load hop s
  refine ⟨src, hform, ?_⟩
  rw [hexec, hf, Status.compare, Status.setZN_eq_zn, sub_eq_ofInt]
  simp [State.charge, State.setP, afterCompare]

/-- An instruction of a read-modify-write mnemonic is a read-modify-write of the statements, for the same new byte and
carry. -/
theorem exec_eq_afterModify {i : Instr} {f : Modify} {op : Byte → Bool → Byte × Bool}
    (hop : operation i.mnemonic = .modify f)
    (hf : ∀ v p, f v p = ((op v p.c).1, zn { p with c := (op v p.c).2 } (op v p.c).1)) (s : State) :
    ∃ pl : Place, i.form = pl.form ∧ exec i s = .next (afterModify op i pl s) := by
  have means := exec_means i s
  generalize exec i s = r at means ⊢
  cases means with
  | @modify _ pl hop' hform =>
    obtain rfl := Operation.modify.inj (hop.symm.trans hop')
    refine ⟨pl, hform, ?_⟩
    rw [modifyOp, show pl.form.length = i.length by rw [Instr.length, hform]]
    cases pl <;> simp [modifyPlace, afterModify, hf, target, State.charge, State.setP, State.setA]
  | _ hop' => cases hop.symm.trans hop'

/-- The accumulator form belongs to the shifts and rotates (40_step_and_addressing.md R107). -/
theorem mnemonic_mem_of_form_eq_acc {i : Instr} (h : i.form = .acc) :
    i.mnemonic ∈ [Mnemonic.asl, .lsr, .rol, .ror] := by
  cases i with
  | aslAcc | lsrAcc | rolAcc | rorAcc => decide
  | _ => cases h

/-! ### The adder -/

/-- The overflow formula of the adder is the sign rule: the operands have the same sign and the result the other
(41_arithmetic.md R141). -/
theorem overflow_formula_eq (a m r : Byte) :
    ((a ^^^ r) &&& (m ^^^ r) &&& 0x80#8 != 0x00#8)
      = ((a.getLsbD 7 ^^ r.getLsbD 7) && (m.getLsbD 7 ^^ r.getLsbD 7)) := by
  simp only [and_0x80_ne_zero, BitVec.getLsbD_and, BitVec.getLsbD_xor]

/-- The adder said on numbers: the byte is the sum modulo 256, the carry says that the sum exceeds 255, the overflow
that the signed sum is no signed byte (41_arithmetic.md R141). -/
theorem addWithCarry_eq (a m : Byte) (c : Bool) :
    addWithCarry a m c =
      { result := BitVec.ofNat 8 (a.toNat + m.toNat + c.toNat)
        carry := decide (255 < a.toNat + m.toNat + c.toNat)
        overflow := decide (a.toInt + m.toInt + c.toNat < -128 ∨ 127 < a.toInt + m.toInt + c.toNat) } := by
  have ha := a.isLt
  have hm := m.isLt
  have hc := c.toNat_le
  have hcarry : (a.toNat + m.toNat + c.toNat).testBit 8 = decide (255 < a.toNat + m.toNat + c.toNat) := by
    rw [Nat.testBit_eq_decide_div_mod_eq, decide_eq_decide]
    omega
  have hoverflow (r : Byte) (hr : r.toNat = (a.toNat + m.toNat + c.toNat) % 256) :
      ((a ^^^ r) &&& (m ^^^ r) &&& 0x80#8 != 0x00#8)
        = decide (a.toInt + m.toInt + c.toNat < -128 ∨ 127 < a.toInt + m.toInt + c.toNat) := by
    rw [overflow_formula_eq, getLsbD_seven, getLsbD_seven, getLsbD_seven, hr, BitVec.toInt_eq_toNat_cond,
      BitVec.toInt_eq_toNat_cond, Bool.eq_iff_iff]
    simp only [Bool.and_eq_true, bne_iff_ne, ne_eq, decide_eq_decide, decide_eq_true_iff]
    split <;> split <;> omega
  simp only [addWithCarry, hcarry, hoverflow _ (BitVec.toNat_ofNat _ 8)]

theorem toNat_complement (m : Byte) : (m ^^^ 0xFF#8).toNat = 255 - m.toNat := by
  rw [show 0xFF#8 = BitVec.allOnes 8 from rfl, BitVec.xor_allOnes, BitVec.toNat_not]

theorem toInt_complement (m : Byte) : (m ^^^ 0xFF#8).toInt = -m.toInt - 1 := by
  have hm := m.isLt
  rw [BitVec.toInt_eq_toNat_cond, BitVec.toInt_eq_toNat_cond, toNat_complement]
  split <;> split <;> omega

/-- Adding the complement subtracts: the byte is the difference modulo 256, the carry says that nothing was borrowed,
the overflow that the signed difference is no signed byte (41_arithmetic.md R142). -/
theorem addWithCarry_complement_eq (a m : Byte) (c : Bool) :
    addWithCarry a (m ^^^ 0xFF#8) c =
      { result := BitVec.ofInt 8 (a.toNat - m.toNat - (1 - c.toNat : Nat))
        carry := decide (m.toNat + (1 - c.toNat) ≤ a.toNat)
        overflow := decide (a.toInt - m.toInt - (1 - c.toNat : Nat) < -128
          ∨ 127 < a.toInt - m.toInt - (1 - c.toNat : Nat)) } := by
  have ha := a.isLt
  have hm := m.isLt
  have hc := c.toNat_le
  rw [addWithCarry_eq, toNat_complement, toInt_complement, Sum.mk.injEq, decide_eq_decide, decide_eq_decide]
  refine ⟨BitVec.eq_of_toNat_eq ?_, by omega, by omega⟩
  rw [BitVec.toNat_ofNat, BitVec.toNat_ofInt]
  omega

/-- What ADC and SBC do with a sum. -/
theorem State.takeSum_eq (s : State) (r : Sum) :
    s.takeSum r = { s with a := r.result, p := zn { s.p with c := r.carry, v := r.overflow } r.result } := by
  rw [State.takeSum, Status.setZN_eq_zn]
  rfl

/-- Settles O20: the adder on numbers. -/
theorem adcAddsWithCarry : Obligations.AdcAddsWithCarry := by
  intro i s h
  obtain ⟨src, hform, hexec⟩ := exec_of_load (f := addA) (by rw [h]; rfl) s
  refine ⟨src, hform, hexec.trans ?_⟩
  rw [addA, State.takeSum_eq, addWithCarry_eq, charge_eq_afterLoadA, operand_st_a, operand_st_p]

/-- Settles O21: SBC adds the complement of its operand. -/
theorem sbcSubtractsWithBorrow : Obligations.SbcSubtractsWithBorrow := by
  intro i s h
  obtain ⟨src, hform, hexec⟩ := exec_of_load (f := subA) (by rw [h]; rfl) s
  refine ⟨src, hform, hexec.trans ?_⟩
  rw [subA, State.takeSum_eq, addWithCarry_complement_eq, charge_eq_afterLoadA, operand_st_a, operand_st_p]

/-! ### Comparing and counting -/

/-- Settles O23: the three compares differ in the register alone. -/
theorem comparesSetCarryZeroNegative : Obligations.ComparesSetCarryZeroNegative := by
  refine fun i s => ⟨fun h => ?_, fun h => ?_, fun h => ?_⟩
  · exact exec_eq_afterCompare (f := compareA) (by rw [h]; rfl) fun _ => by simp [compareA]
  · exact exec_eq_afterCompare (f := compareX) (by rw [h]; rfl) fun _ => by simp [compareX]
  · exact exec_eq_afterCompare (f := compareY) (by rw [h]; rfl) fun _ => by simp [compareY]

theorem increment_eq (v : Byte) (p : Status) :
    increment v p = (BitVec.ofNat 8 (v.toNat + 1), zn p (BitVec.ofNat 8 (v.toNat + 1))) := by
  rw [increment, Status.setZN_eq_zn, add_one_eq_ofNat]

theorem decrement_eq (v : Byte) (p : Status) :
    decrement v p = (BitVec.ofNat 8 (v.toNat + 255), zn p (BitVec.ofNat 8 (v.toNat + 255))) := by
  rw [decrement, Status.setZN_eq_zn, sub_one_eq_ofNat]

/-- A read-modify-write that is no shift names a memory operand. -/
theorem exec_eq_afterModify_mem {i : Instr} {f : Modify} {op : Byte → Bool → Byte × Bool}
    (hop : operation i.mnemonic = .modify f)
    (hf : ∀ v p, f v p = ((op v p.c).1, zn { p with c := (op v p.c).2 } (op v p.c).1))
    (hshift : i.mnemonic ∉ [Mnemonic.asl, .lsr, .rol, .ror]) (s : State) :
    ∃ m : AddrMode, i.form = .mem m ∧ exec i s = .next (afterModify op i (.mem m) s) := by
  obtain ⟨pl, hform, hexec⟩ := exec_eq_afterModify hop hf s
  cases pl with
  | acc => exact absurd (mnemonic_mem_of_form_eq_acc hform) hshift
  | mem m => exact ⟨m, hform, hexec⟩

/-- Settles O24: one step up or down on numbers; the carry that INC and DEC hand on is the old one. -/
theorem incrementAndDecrementMemory : Obligations.IncrementAndDecrementMemory := by
  refine fun i s => ⟨fun h => ?_, fun h => ?_⟩
  · exact exec_eq_afterModify_mem (f := increment) (by rw [h]; rfl) increment_eq (by rw [h]; decide) s
  · exact exec_eq_afterModify_mem (f := decrement) (by rw [h]; rfl) decrement_eq (by rw [h]; decide) s

/-- Settles O25: counting and SetZN on numbers; each instruction is its register operation by definition. -/
theorem indexRegistersCountModulo256 : Obligations.IndexRegistersCountModulo256 := by
  intro s
  simp only [← add_one_eq_ofNat, ← sub_one_eq_ofNat, ← Status.setZN_eq_zn]
  exact ⟨rfl, rfl, rfl, rfl⟩

end Sys2Proof.Machine
end

section
/-! ## Logic and shifts (O26, O27, O28, O29)

The shape of every outcome is said above. What remains of each obligation is its operation: AND, ORA, EOR and BIT bit
by bit, the shifts and rotates on numbers. -/

namespace Sys2Proof.Machine

open Claims

/-! ### Logic -/

/-- An instruction whose operation writes to A what `g` makes of A and the operand, and then runs SetZN. -/
theorem exec_eq_afterLoadA_setAZN {i : Instr} {f : Byte → State → State} {g : Byte → Byte → Byte}
    (hop : operation i.mnemonic = .load f) (hf : ∀ m t, f m t = t.setAZN (g t.a m)) (s : State) :
    ∃ src : Source, i.form = src.form ∧
      exec i s = .next (afterLoadA i (operand i src s) s (g s.a (operand i src s).val)
        (zn s.p (g s.a (operand i src s).val))) := by
  obtain ⟨src, hform, hexec⟩ := exec_of_load hop s
  refine ⟨src, hform, hexec.trans ?_⟩
  rw [hf, ← charge_eq_afterLoadA, State.setAZN, Status.setZN_eq_zn, operand_st_a, operand_st_p]
  rfl

/-- An instruction whose operation makes each bit of A what `op` makes of that bit and the operand's, and then runs
SetZN. -/
theorem exec_eq_afterLoadA_bitwise {i : Instr} {f : Byte → State → State} {g : Byte → Byte → Byte}
    {op : Bool → Bool → Bool} (hop : operation i.mnemonic = .load f) (hf : ∀ m t, f m t = t.setAZN (g t.a m))
    (hbit : ∀ a m k, (g a m).getLsbD k = op (a.getLsbD k) (m.getLsbD k)) (s : State) :
    ∃ (src : Source) (r : Byte), i.form = src.form
      ∧ (∀ k, k < 8 → r.getLsbD k = op (s.a.getLsbD k) ((operand i src s).val.getLsbD k))
      ∧ exec i s = .next (afterLoadA i (operand i src s) s r (zn s.p r)) := by
  obtain ⟨src, hform, hexec⟩ := exec_eq_afterLoadA_setAZN hop hf s
  exact ⟨src, _, hform, fun k _ => hbit _ _ k, hexec⟩

/-- Settles O26: AND, ORA and EOR are bitwise. -/
theorem logicOperationsOnA : Obligations.LogicOperationsOnA := by
  rintro i s op (⟨h, rfl⟩ | ⟨h, rfl⟩ | ⟨h, rfl⟩)
  · exact exec_eq_afterLoadA_bitwise (f := andA) (by rw [h]; rfl) (fun _ _ => rfl) (fun _ _ _ => BitVec.getLsbD_and) s
  · exact exec_eq_afterLoadA_bitwise (f := oraA) (by rw [h]; rfl) (fun _ _ => rfl) (fun _ _ _ => BitVec.getLsbD_or) s
  · exact exec_eq_afterLoadA_bitwise (f := eorA) (by rw [h]; rfl) (fun _ _ => rfl) (fun _ _ _ => BitVec.getLsbD_xor) s

/-! ### The bit test -/

/-- BIT has no immediate form (30_encoding.md R75). -/
theorem mnemonic_ne_bit_of_form_eq_imm {i : Instr} {v : Byte} (h : i.form = .imm v) : i.mnemonic ≠ .bit := by
  cases i with
  | bitZp | bitAbs => cases h
  | _ => rintro ⟨⟩

/-- Two bytes have no common bit exactly where their conjunction is zero. -/
theorem and_beq_zero_eq (a m : Byte) :
    (a &&& m == 0x00#8) = decide (∀ k : Fin 8, ¬ (a.getLsbD k = true ∧ m.getLsbD k = true)) := by
  rw [Bool.eq_iff_iff, beq_iff_eq, decide_eq_true_iff]
  constructor
  · intro hzero k
    rw [← Bool.and_eq_true, ← BitVec.getLsbD_and, hzero, BitVec.getLsbD_zero]
    exact Bool.false_ne_true
  · intro hbits
    refine BitVec.eq_of_getLsbD_eq fun k hk => ?_
    rw [BitVec.getLsbD_and, BitVec.getLsbD_zero, ← Bool.not_eq_true, Bool.and_eq_true]
    exact hbits ⟨k, hk⟩

/-- Settles O27: Z says that the conjunction is zero. -/
theorem bitTestCopiesOperandBits : Obligations.BitTestCopiesOperandBits := by
  intro i s h
  obtain ⟨src, hform, hexec⟩ := exec_of_load (f := bitTest) (by rw [h]; rfl) s
  cases src with
  | imm v => exact absurd h (mnemonic_ne_bit_of_form_eq_imm hform)
  | mem m =>
    refine ⟨m, hform, hexec.trans ?_⟩
    simp only [← and_beq_zero_eq, ← charge_eq_afterLoadA]
    rw [bitTest, State.setP, Status.bitTest, operand_st_a, operand_st_p]

/-! ### Shifts and rotates, said on numbers -/

/-- Bit 0 of a byte is set where the number is odd. -/
theorem getLsbD_zero_eq (v : Byte) : v.getLsbD 0 = decide (v.toNat % 2 = 1) := Nat.testBit_zero _

/-- Shifting left doubles, modulo 256. -/
theorem shiftLeft_one_eq_ofNat (v : Byte) : v <<< 1 = BitVec.ofNat 8 (2 * v.toNat) := by
  rw [BitVec.shiftLeft_eq_mul_twoPow, BitVec.mul_comm, BitVec.ofNat_mul, BitVec.ofNat_toNat, BitVec.setWidth_eq]
  rfl

/-- Shifting right halves. -/
theorem shiftRight_one_eq_ofNat (v : Byte) : v >>> 1 = BitVec.ofNat 8 (v.toNat / 2) := by
  rw [← Nat.shiftRight_one, ← BitVec.toNat_ushiftRight, BitVec.ofNat_toNat, BitVec.setWidth_eq]

/-- A shift left leaves bit 0 to the carry that a rotation puts there. -/
theorem shiftLeft_one_and_carry (v : Byte) (c : Bool) : v <<< 1 &&& (BitVec.ofBool c).setWidth 8 = 0#8 := by
  ext k hk
  cases k <;> simp

/-- A shift right leaves bit 7 to the carry that a rotation puts there. -/
theorem shiftRight_one_and_carry (v : Byte) (c : Bool) : v >>> 1 &&& (BitVec.ofBool c).setWidth 8 <<< 7 = 0#8 := by
  ext k hk
  by_cases hlow : k < 7
  · simp [hlow]
  · simp [show k = 7 by omega]

/-- Rotating left doubles and adds the carry, modulo 256: the bits that the two parts set are disjoint. -/
theorem shiftLeft_one_or_carry_eq_ofNat (v : Byte) (c : Bool) :
    v <<< 1 ||| (BitVec.ofBool c).setWidth 8 = BitVec.ofNat 8 (2 * v.toNat + c.toNat) := by
  have hcarry : (BitVec.ofBool c).setWidth 8 = BitVec.ofNat 8 c.toNat := by cases c <;> rfl
  rw [← BitVec.add_eq_or_of_and_eq_zero _ _ (shiftLeft_one_and_carry v c), shiftLeft_one_eq_ofNat, hcarry,
    BitVec.ofNat_add]

/-- Rotating right halves and adds 128 for the carry. -/
theorem shiftRight_one_or_carry_eq_ofNat (v : Byte) (c : Bool) :
    v >>> 1 ||| (BitVec.ofBool c).setWidth 8 <<< 7 = BitVec.ofNat 8 (v.toNat / 2 + 128 * c.toNat) := by
  have hcarry : (BitVec.ofBool c).setWidth 8 <<< 7 = BitVec.ofNat 8 (128 * c.toNat) := by cases c <;> rfl
  rw [← BitVec.add_eq_or_of_and_eq_zero _ _ (shiftRight_one_and_carry v c), shiftRight_one_eq_ofNat, hcarry,
    BitVec.ofNat_add]

theorem shiftLeft_eq (v : Byte) (p : Status) :
    shiftLeft v p = (BitVec.ofNat 8 (2 * v.toNat),
      zn { p with c := decide (128 ≤ v.toNat) } (BitVec.ofNat 8 (2 * v.toNat))) := by
  rw [shiftLeft, Status.setZN_eq_zn, shiftLeft_one_eq_ofNat, getLsbD_seven]

theorem shiftRight_eq (v : Byte) (p : Status) :
    shiftRight v p = (BitVec.ofNat 8 (v.toNat / 2),
      zn { p with c := decide (v.toNat % 2 = 1) } (BitVec.ofNat 8 (v.toNat / 2))) := by
  rw [shiftRight, Status.setZN_eq_zn, shiftRight_one_eq_ofNat, getLsbD_zero_eq]

theorem rotateLeft_eq (v : Byte) (p : Status) :
    rotateLeft v p = (BitVec.ofNat 8 (2 * v.toNat + p.c.toNat),
      zn { p with c := decide (128 ≤ v.toNat) } (BitVec.ofNat 8 (2 * v.toNat + p.c.toNat))) := by
  rw [rotateLeft, Status.setZN_eq_zn, shiftLeft_one_or_carry_eq_ofNat, getLsbD_seven]

theorem rotateRight_eq (v : Byte) (p : Status) :
    rotateRight v p = (BitVec.ofNat 8 (v.toNat / 2 + 128 * p.c.toNat),
      zn { p with c := decide (v.toNat % 2 = 1) } (BitVec.ofNat 8 (v.toNat / 2 + 128 * p.c.toNat))) := by
  rw [rotateRight, Status.setZN_eq_zn, shiftRight_one_or_carry_eq_ofNat, getLsbD_zero_eq]

/-- Settles O28: a shift is a read-modify-write that doubles or halves. -/
theorem shiftsMoveOneBit : Obligations.ShiftsMoveOneBit := by
  refine fun i s => ⟨fun h => ?_, fun h => ?_⟩
  · exact exec_eq_afterModify (f := shiftLeft) (by rw [h]; rfl) shiftLeft_eq s
  · exact exec_eq_afterModify (f := shiftRight) (by rw [h]; rfl) shiftRight_eq s

/-- Settles O29: a rotation is a shift that adds the old carry. -/
theorem rotatesMoveNineBits : Obligations.RotatesMoveNineBits := by
  refine fun i s => ⟨fun h => ?_, fun h => ?_⟩
  · exact exec_eq_afterModify (f := rotateLeft) (by rw [h]; rfl) rotateLeft_eq s
  · exact exec_eq_afterModify (f := rotateRight) (by rw [h]; rfl) rotateRight_eq s

end Sys2Proof.Machine
end

section
/-! ## Branches, jumps and calls (O30, O31, O33, O34, O35)

A branch is its shape at the condition of its mnemonic. JSR and RTS are a push and a pull of a word: each is said as
its two accesses in the state before it, and by the word that the pull gives back. -/

namespace Sys2Proof.Machine

open Claims

/-! ### Branches -/

/-- The condition that a branch tests is that of its operation. -/
theorem operation_of_branchCondition {mn : Mnemonic} {p : Status} {taken : Bool}
    (h : branchCondition mn p = some taken) : ∃ cond, operation mn = .branch cond ∧ cond p = taken := by
  cases mn with
  | bcc | bcs | beq | bne | bmi | bpl | bvc | bvs => exact ⟨_, rfl, Option.some.inj h⟩
  | _ => cases h

theorem timingClass_of_branch {mn : Mnemonic} {cond : Status → Bool} (h : operation mn = .branch cond) :
    timingClass mn = .fixed 2 := by
  cases mn <;> simp [operation, timingClass] at h ⊢

/-- A branching mnemonic names a displacement, and runs the branch shape with 2 base cycles. -/
theorem exec_of_branch {i : Instr} {cond : Status → Bool} (hop : operation i.mnemonic = .branch cond) (s : State) :
    ∃ off, i.form = .rel off ∧ exec i s = branchOp (cond s.p) off 2 s := by
  have means := exec_means i s
  generalize exec i s = r at means ⊢
  cases means with
  | @branch _ off hop' hform =>
    obtain rfl := Operation.branch.inj (hop.symm.trans hop')
    refine ⟨off, hform, ?_⟩
    rw [baseCycles, timingClass_of_branch hop, hform]
  | _ hop' => cases hop.symm.trans hop'

/-- The displacement is added as a signed number (43_branches_jumps.md R180). -/
theorem add_sext16 (w : Word) (off : Byte) : w + sext16 off = BitVec.ofInt 16 (w.toNat + off.toInt) := by
  rw [BitVec.ofInt_add, BitVec.ofInt_natCast, BitVec.ofNat_toNat, BitVec.setWidth_eq]
  rfl

/-- A sum of a word and a number, modulo 65536. -/
theorem add_ofNat_eq_ofNat (w : Word) (n : Nat) : w + BitVec.ofNat 16 n = BitVec.ofNat 16 (w.toNat + n) := by
  rw [BitVec.ofNat_add, BitVec.ofNat_toNat, BitVec.setWidth_eq]

/-- The cycles of a taken branch (43_branches_jumps.md R180). -/
theorem takenCycles_eq (next target : Word) :
    2 + (1 + if pageCrossed next target then 1 else 0) = if target.toNat / 256 = next.toNat / 256 then 3 else 4 := by
  by_cases hpage : target.toNat / 256 = next.toNat / 256 <;> simp [pageCrossed_iff, hpage]

/-- Settles O30: the branch shape on numbers, taken and not. -/
theorem branchesTestOneFlag : Obligations.BranchesTestOneFlag := by
  intro i s taken h
  obtain ⟨cond, hop, rfl⟩ := operation_of_branchCondition h
  obtain ⟨off, hform, hexec⟩ := exec_of_branch hop s
  refine ⟨off, hform, hexec.trans ?_⟩
  simp only [← add_sext16, ← add_ofNat_eq_ofNat, ← takenCycles_eq]
  cases cond s.p with
  | true => rfl
  | false => rfl

/-! ### Jumps -/

/-- Settles O31: an absolute operand is the address itself, and resolving it reads nothing. -/
theorem jumpAbsoluteSetsPc : Obligations.JumpAbsoluteSetsPc := fun _ _ => rfl

/-! ### Accesses in a state whose SP or PC has moved -/

theorem memWrite_setSp (addr : Word) (v sp : Byte) (s : State) :
    memWrite addr v (s.setSp sp) = (memWrite addr v s).setSp sp := by
  unfold memWrite State.place
  cases (region addr).isWritable <;> cases (region addr).isStorage <;> rfl

theorem memWrite_setPc (addr : Word) (v : Byte) (pc : Word) (s : State) :
    memWrite addr v (s.setPc pc) = (memWrite addr v s).setPc pc := by
  unfold memWrite State.place
  cases (region addr).isWritable <;> cases (region addr).isStorage <;> rfl

theorem memRead_setSp (addr : Word) (sp : Byte) (s : State) :
    memRead addr (s.setSp sp) = ((memRead addr s).1, (memRead addr s).2.setSp sp) := by
  unfold memRead
  split <;> rfl

theorem memRead_setPc (addr pc : Word) (s : State) :
    memRead addr (s.setPc pc) = ((memRead addr s).1, (memRead addr s).2.setPc pc) := by
  unfold memRead
  split <;> rfl

/-! ### Words on the stack -/

theorem hiByte_eq_ofNat (w : Word) : hiByte w = BitVec.ofNat 8 (w.toNat / 256) :=
  congrArg (BitVec.ofNat 8) (Nat.shiftRight_eq_div_pow _ 8)

theorem loByte_eq_ofNat (w : Word) : loByte w = BitVec.ofNat 8 w.toNat := rfl

/-- The two accesses of the push of a word, high byte first (20_memory.md R43). -/
theorem pushWord_eq (w : Word) (s : State) :
    pushWord w s = (memWrite (slot (s.sp - 1#8)) (loByte w) (memWrite (slot s.sp) (hiByte w) s)).setSp (s.sp - 2#8) := by
  rw [pushWord, push, push, memWrite_setSp, State.setSp_sp, BitVec.sub_sub]
  rfl

/-- The two accesses of the pull of a word, low byte first (20_memory.md R43). -/
theorem pullWord_eq (s : State) :
    let lo := memRead (slot (s.sp + 1#8)) s
    let hi := memRead (slot (s.sp + 2#8)) lo.2
    pullWord s = (mkWord hi.1 lo.1, hi.2.setSp (s.sp + 2#8)) := by
  simp only [pullWord, pull, memRead_setSp, State.setSp_sp, BitVec.add_assoc]
  rfl

/-- What a pull of a word yields: two bytes of the stack page. -/
theorem pullWord_val (s : State) :
    (pullWord s).1 = mkWord (s.stored (stackAddr (s.sp + 1#8 + 1#8))) (s.stored (stackAddr (s.sp + 1#8))) := by
  rw [pullWord, pull_val, pull_val, pull_sp, stored_congr (pull_mem s)]

/-- A pull gives back the word that was pushed, wherever SP is as the push left it and memory too. -/
theorem pullWord_of_pushWord {w : Word} {s t : State} (hsp : t.sp = (pushWord w s).sp)
    (hmem : t.mem = (pushWord w s).mem) : (pullWord t).1 = w := by
  have hlo : s.sp - 1#8 - 1#8 + 1#8 = s.sp - 1#8 := BitVec.sub_add_cancel _ _
  have hhi : s.sp - 1#8 + 1#8 = s.sp := BitVec.sub_add_cancel _ _
  have hne : s.sp ≠ s.sp - 1#8 := by bv_omega
  rw [pullWord_val, stored_congr hmem, stored_congr hmem, hsp, pushWord_sp, hlo, hhi, pushWord,
    stored_push_stackAddr, stored_push_stackAddr, stored_push_stackAddr, push_sp, if_neg hne, if_pos rfl, if_pos rfl,
    mkWord_hiByte_loByte]

/-! ### The call and the return -/

/-- JSR pushes the address of its last byte, two past its first (43_branches_jumps.md R191). -/
theorem exec_jsr (addr : Word) (s : State) :
    exec (.jsr addr) s = .next (((pushWord (s.pc + 2#16) (s.setPc (s.pc + 3#16))).setPc addr).charge 6) := by
  have hret : s.pc + 3#16 - 1#16 = s.pc + 2#16 := by bv_omega
  rw [← hret]
  rfl

theorem exec_rts (s : State) : exec .rts s = .next ((returnFromSubroutine (s.setPc (s.pc + 1#16))).charge 6) := rfl

/-- Settles O33: the pushes do not see that PC has moved on. -/
theorem callPushesTheReturnAddress : Obligations.CallPushesTheReturnAddress := by
  intro s addr ret
  rw [exec_jsr, pushWord_eq, memWrite_setPc, memWrite_setPc, hiByte_eq_ofNat, loByte_eq_ofNat]
  simp [State.setPc, State.setSp, State.charge, ret]

/-- One past a word, said on its bytes (43_branches_jumps.md R192). -/
theorem mkWord_add_one (hi lo : Byte) : mkWord hi lo + 1#16 = BitVec.ofNat 16 (hi.toNat * 256 + lo.toNat + 1) := by
  rw [← toNat_mkWord]
  exact add_ofNat_eq_ofNat _ 1

/-- Settles O34: the pulls do not see that PC has moved on. -/
theorem returnPullsAndAddsOne : Obligations.ReturnPullsAndAddsOne := by
  intro s lo hi
  rw [exec_rts, returnFromSubroutine, pullWord_eq]
  simp only [memRead_setPc, State.setPc_sp, mkWord_add_one]
  simp [State.setPc, State.setSp, State.charge, lo, hi]

/-- Settles O35: RTS pulls the word that JSR pushed and adds one. -/
theorem callThenReturnResumesAfterTheCall : Obligations.CallThenReturnResumesAfterTheCall := by
  intro s addr
  have hpc : s.pc + 2#16 + 1#16 = s.pc + 3#16 := BitVec.add_assoc _ _ _
  refine ⟨_, _, exec_jsr addr s, exec_rts _, ?_, ?_⟩
  · rw [State.charge_pc, returnFromSubroutine, State.setPc_pc,
      pullWord_of_pushWord (w := s.pc + 2#16) (s := s.setPc (s.pc + 3#16)), hpc]
    · rfl
    · rfl
  · simp [returnFromSubroutine]

end Sys2Proof.Machine
end

section
/-! ## Loads, stores and transfers (O36, O37, O38)

A load is its shape at the operation that writes the register and runs SetZN. A store is its shape at the register: one
write at the effective address, and no penalty. -/

namespace Sys2Proof.Machine

open Claims

/-! ### Loads -/

theorem loadA_eq (v : Byte) (s : State) : loadA v s = { s with a := v, p := zn s.p v } := by
  rw [loadA, Status.setZN_eq_zn]
  rfl

theorem loadX_eq (v : Byte) (s : State) : loadX v s = { s with x := v, p := zn s.p v } := by
  rw [loadX, Status.setZN_eq_zn]
  rfl

theorem loadY_eq (v : Byte) (s : State) : loadY v s = { s with y := v, p := zn s.p v } := by
  rw [loadY, Status.setZN_eq_zn]
  rfl

/-- Settles O36: the three loads differ in the register alone. -/
theorem loadsSetRegisterZeroNegative : Obligations.LoadsSetRegisterZeroNegative := by
  refine fun i s => ⟨fun h => ?_, fun h => ?_, fun h => ?_⟩
  · exact (exec_of_load (f := loadA) (by rw [h]; rfl) s).imp fun _ ⟨hform, hexec⟩ =>
      ⟨hform, by simp [hexec, loadA_eq, State.charge]⟩
  · exact (exec_of_load (f := loadX) (by rw [h]; rfl) s).imp fun _ ⟨hform, hexec⟩ =>
      ⟨hform, by simp [hexec, loadX_eq, State.charge]⟩
  · exact (exec_of_load (f := loadY) (by rw [h]; rfl) s).imp fun _ ⟨hform, hexec⟩ =>
      ⟨hform, by simp [hexec, loadY_eq, State.charge]⟩

/-! ### Stores -/

/-- An instruction of a storing mnemonic writes its register once at its target, for the base cycles of its row
(44_transfers.md R200). -/
theorem exec_of_store {i : Instr} {r : State → Byte} (hop : operation i.mnemonic = .store r) (s : State) :
    ∃ m : AddrMode, i.form = .mem m ∧
      exec i s = .next
        { memWrite (target i m s).ea (r s) (target i m s).st with cycles := s.cycles + baseCycles i } := by
  have means := exec_means i s
  generalize exec i s = result at means ⊢
  cases means with
  | @store _ m hop' hform =>
    obtain rfl := Operation.store.inj (hop.symm.trans hop')
    refine ⟨m, hform, ?_⟩
    rw [storeOp, target_eq hform]
    simp [State.charge]
  | _ hop' => cases hop.symm.trans hop'

/-- Settles O37: the three stores differ in the register alone. -/
theorem storesWriteOneByte : Obligations.StoresWriteOneByte := by
  refine fun i s => ⟨fun h => ?_, fun h => ?_, fun h => ?_⟩
  · exact exec_of_store (r := State.a) (by rw [h]; rfl) s
  · exact exec_of_store (r := State.x) (by rw [h]; rfl) s
  · exact exec_of_store (r := State.y) (by rw [h]; rfl) s

/-! ### Transfers -/

/-- Settles O38: SetZN on numbers; each transfer is a load of its destination from its source, but TXS sets SP alone. -/
theorem transfersCopyRegisters : Obligations.TransfersCopyRegisters := by
  intro s
  simp only [← Status.setZN_eq_zn]
  exact ⟨rfl, rfl, rfl, rfl, rfl, rfl⟩

end Sys2Proof.Machine
end

section
/-! ## The stack instructions (O39)

PHA and PLA are one push and one pull: each is said as its one access in the state before it. -/

namespace Sys2Proof.Machine

open Claims

/-- The one access of a push (10_state.md R12). -/
theorem push_eq (v : Byte) (s : State) : push v s = (memWrite (slot s.sp) v s).setSp (s.sp - 1#8) := rfl

/-- The one access of a pull, said in the state before SP moves (10_state.md R12). -/
theorem pull_eq (s : State) :
    let r := memRead (slot (s.sp + 1#8)) s
    pull s = (r.1, r.2.setSp (s.sp + 1#8)) :=
  memRead_setSp _ _ s

/-- PLA loads A from the byte that it pulls (45_stack.md R223). -/
theorem pullA_eq_loadA (s : State) : pullA s = loadA (pull s).1 (pull s).2 := rfl

theorem exec_pha (s : State) : exec .pha s = .next ((pushA (s.setPc (s.pc + 1#16))).charge 3) := rfl

theorem exec_pla (s : State) : exec .pla s = .next ((pullA (s.setPc (s.pc + 1#16))).charge 4) := rfl

/-- Settles O39: the push and the pull do not see that PC has moved on. -/
theorem phaPushesAPlaPullsA : Obligations.PhaPushesAPlaPullsA := by
  refine fun s => ⟨?_, ?_⟩
  · rw [exec_pha, pushA, push_eq, State.setPc_sp, State.setPc_a, memWrite_setPc]
    simp [State.setPc, State.setSp, State.charge]
  · intro r
    rw [exec_pla, pullA_eq_loadA, pull_eq, State.setPc_sp, memRead_setPc, loadA_eq]
    simp [State.setPc, State.setSp, State.charge, r]

end Sys2Proof.Machine
end

section
/-! ## NOP and the flag instructions (O43)

A flag instruction is no operation but the one update of P: it is said once, for every such update. -/

namespace Sys2Proof.Machine

open Claims

/-- What the statements call an instruction that changes P alone (46_system.md R234 to R240). -/
theorem impliedOp_setP (g : Status → Status) (s : State) :
    impliedOp (fun t => t.setP (g t.p)) 2 s = .next (afterRegister s (fun t => { t with p := g s.p })) := rfl

/-- What the statements call an instruction that changes nothing (46_system.md R233). -/
theorem impliedOp_noOperation (s : State) : impliedOp noOperation 2 s = .next (afterRegister s id) := rfl

/-- Settles O43: NOP has no operation; each of the others is one update of P. -/
theorem nopAndFlagInstructions : Obligations.NopAndFlagInstructions := by
  refine fun s => ⟨?nop, ?clc, ?sec, ?cld, ?sed, ?clv⟩
  case nop => exact impliedOp_noOperation s
  case clc => exact impliedOp_setP (fun p => { p with c := false }) s
  case sec => exact impliedOp_setP (fun p => { p with c := true }) s
  case cld => exact impliedOp_setP (fun p => { p with d := false }) s
  case sed => exact impliedOp_setP (fun p => { p with d := true }) s
  case clv => exact impliedOp_setP (fun p => { p with v := false }) s

end Sys2Proof.Machine
end

section
/-! ## Exceptions: when a step stops, and the return from a handler (O53, O55)

A step that services no interrupt runs what the decoder gives for the opcode byte read at PC, so it stops on the bytes
of R77 alone. NMI, IRQ and BRK enter their handler by one operation: RTI is said once after it, for whatever return
address, Break bit and vector. -/

namespace Sys2Proof.Machine

/-! ### The three ways of a step -/

theorem irqServiceable_iff (s : State) : irqServiceable s = true ↔ s.irqPending = true ∧ s.p.i = false := by
  rw [irqServiceable, Bool.and_eq_true, Bool.not_eq_true']

theorem step_of_nmi {s : State} (hnmi : s.nmiPending = true) : step s = .next (serviceNmi s.clearBus) := if_pos hnmi

theorem step_of_irq {s : State} (hnmi : s.nmiPending = false) (hirq : irqServiceable s = true) :
    step s = .next (serviceIrq s.clearBus) := by
  have hnmi' : ¬ s.clearBus.nmiPending = true := by simp [hnmi]
  exact (if_neg hnmi').trans (if_pos hirq)

/-- Both services enter a handler to return to PC, from a state that differs from the one before in its latches and its
record alone (60_exceptions.md R255, R256). -/
theorem step_of_serviceable {s : State} (h : s.nmiPending = true ∨ (s.irqPending = true ∧ s.p.i = false)) :
    ∃ vector nmi irq, step s = .next
      ((enterHandler s.pc false vector ((s.clearBus.setNmi nmi).setIrq irq)).charge serviceCycles) := by
  cases hnmi : s.nmiPending with
  | true => exact ⟨Config.nmiVector, false, s.irqPending, step_of_nmi hnmi⟩
  | false =>
    have hirq : s.irqPending = true ∧ s.p.i = false := by simpa [hnmi] using h
    exact ⟨Config.irqVector, s.nmiPending, false, step_of_irq hnmi ((irqServiceable_iff s).2 hirq)⟩

/-! ### The opcode byte decides whether a step stops -/

theorem decode_of_unimplemented {op : Byte} (h : op ∈ unimplementedOpcodes) (b1 b2 : Byte) :
    decode op b1 b2 = .ill op := by
  rw [decode, lookup_of_unimplemented h]

theorem mnemonic_decode_ne_ill {op : Byte} (h : op ∉ unimplementedOpcodes) (b1 b2 : Byte) :
    (decode op b1 b2).mnemonic ≠ .ill := by
  rcases lookup_cases op with ⟨i, hcell, -, hne⟩ | ⟨f, hcell, hne⟩ | ⟨f, hcell, hne⟩ | ⟨-, hill⟩
  · simpa [decode, hcell] using hne
  · simpa [decode, hcell] using (hne b1).2
  · simpa [decode, hcell] using (hne (mkWord b2 b1)).2
  · exact absurd hill h

/-- A fetch decodes the byte read first, whatever bytes it reads after (40_step_and_addressing.md R102). -/
theorem fetchAt_decodes_opcode (addr : Word) (s : State) :
    ∃ b1 b2, (fetchAt addr s).1 = decode (memRead addr s).1 b1 b2 := by
  rcases fetchAt_cases addr s with ⟨-, hfetch⟩ | ⟨-, hfetch⟩ | ⟨-, hfetch⟩
  · exact ⟨0, 0, congrArg Prod.fst (hfetch 0 0)⟩
  · exact ⟨_, 0, congrArg Prod.fst (hfetch 0)⟩
  · exact ⟨_, _, congrArg Prod.fst hfetch⟩

/-- The record of transactions, which a step starts afresh, has no part in what a read yields. -/
theorem memRead_clearBus_val (addr : Word) (s : State) : (memRead addr s.clearBus).1 = (memRead addr s).1 := by
  rw [memRead_val_mem, memRead_val_mem, State.clearBus_mem, State.clearBus_draws]

/-- Settles O55: a service always goes on; a fetch gives the fault's instruction exactly for the bytes of R77, and every
other instruction goes on. -/
theorem stepStopsOnlyOnUnimplementedOpcode : Obligations.StepStopsOnlyOnUnimplementedOpcode := by
  intro s op
  split_ifs with hserviceable hop
  · obtain ⟨_, _, _, hstep⟩ := step_of_serviceable hserviceable
    exact ⟨_, hstep⟩
  all_goals
    rw [not_or, Bool.not_eq_true, ← irqServiceable_iff, Bool.not_eq_true] at hserviceable
    obtain ⟨hnmi, hirq⟩ := hserviceable
    have hstep := step_of_not_serviced hnmi hirq
    obtain ⟨b1, b2, hfetch⟩ := fetchAt_decodes_opcode s.pc s.clearBus
    rw [memRead_clearBus_val] at hfetch
  · rw [hstep, fetch, State.clearBus_pc, hfetch, decode_of_unimplemented hop]
    rfl
  · have hne : (fetch s.clearBus).1.mnemonic ≠ .ill := by
      rw [fetch, State.clearBus_pc, hfetch]
      exact mnemonic_decode_ne_ill hop b1 b2
    rw [Claims.GoesOn, hstep]
    exact exec_next hne _

/-! ### The frame that the entry to a handler leaves on the stack -/

/-- Entry to a handler pushes the return address, then P, and writes no more (60_exceptions.md R256). -/
theorem enterHandler_mem (ret : Word) (brk : Bool) (vector : Word) (s : State) :
    (enterHandler ret brk vector s).mem = (push (s.p.pack brk) (pushWord ret s)).mem := by
  simp [enterHandler]

theorem stored_enterHandler_stackAddr (ret : Word) (brk : Bool) (vector : Word) (q : Byte) (s : State) :
    (enterHandler ret brk vector s).stored (stackAddr q)
      = if q = s.sp - 1#8 - 1#8 then s.p.pack brk else (pushWord ret s).stored (stackAddr q) := by
  rw [stored_congr (enterHandler_mem ret brk vector s), stored_push_stackAddr, pushWord_sp]

/-! ### What the return from a handler takes back -/

/-- The return address lies in the two slots above that of the status (46_system.md R232). -/
theorem leaveHandler_pc (s : State) : (leaveHandler s).pc = (pullWord (pull s).2).1 := by
  rw [leaveHandler, State.setPc_pc, pullWord_val, pullWord_val]
  rfl

/-- The entry leaves SP one below the slot of the status. -/
theorem sp_add_one_of_enterHandler {ret : Word} {brk : Bool} {vector : Word} {s t : State}
    (hsp : t.sp = (enterHandler ret brk vector s).sp) : t.sp + 1#8 = s.sp - 1#8 - 1#8 := by
  rw [hsp, enterHandler_sp]
  exact BitVec.sub_add_cancel _ _

/-- The return takes back the address that the entry pushed, wherever SP is as the entry left it and memory too. -/
theorem leaveHandler_pc_of_enterHandler {ret : Word} {brk : Bool} {vector : Word} {s t : State}
    (hsp : t.sp = (enterHandler ret brk vector s).sp) (hmem : t.mem = (enterHandler ret brk vector s).mem) :
    (leaveHandler t).pc = ret := by
  have hlo : s.sp - 1#8 - 1#8 + 1#8 ≠ s.sp - 1#8 - 1#8 := by bv_omega
  have hhi : s.sp - 1#8 - 1#8 + 1#8 + 1#8 ≠ s.sp - 1#8 - 1#8 := by bv_omega
  have hword : (pullWord (pushWord ret s)).1 = ret := pullWord_of_pushWord rfl rfl
  rw [pullWord_val, pushWord_sp] at hword
  rw [leaveHandler_pc, pullWord_val, stored_congr (pull_mem t), stored_congr (pull_mem t), stored_congr hmem,
    stored_congr hmem, pull_sp, sp_add_one_of_enterHandler hsp, stored_enterHandler_stackAddr,
    stored_enterHandler_stackAddr, if_neg hlo, if_neg hhi, hword]

/-- The return takes back the flags that the entry pushed, but for the stored B (60_exceptions.md R260). -/
theorem leaveHandler_p_of_enterHandler {ret : Word} {brk : Bool} {vector : Word} {s t : State}
    (hsp : t.sp = (enterHandler ret brk vector s).sp) (hmem : t.mem = (enterHandler ret brk vector s).mem) :
    (leaveHandler t).p = { s.p with b := t.p.b } := by
  rw [leaveHandler_p, pull_val, stored_congr hmem, sp_add_one_of_enterHandler hsp, stored_enterHandler_stackAddr,
    if_pos rfl, Status.unpack_pack]

/-- RTI leaves the handler, whatever PC was in it (46_system.md R232). -/
theorem exec_rti (s : State) : exec .rti s = .next ((leaveHandler (s.setPc (s.pc + 1#16))).charge 6) := rfl

theorem exec_brk (s : State) :
    exec .brk s = .next ((enterHandler (s.pc + 2#16) true Config.irqVector (s.setPc (s.pc + 1#16))).charge 7) := by
  have hret : s.pc + 1#16 + 1#16 = s.pc + 2#16 := BitVec.add_assoc _ _ _
  rw [← hret]
  rfl

/-- RTI right after the entry to a handler gives back every register and flag, with PC at the return address. -/
theorem exec_rti_of_enterHandler (ret : Word) (brk : Bool) (vector : Word) (n : Nat) (s : State) :
    ∃ u, exec .rti ((enterHandler ret brk vector s).charge n) = .next u
      ∧ u.a = s.a ∧ u.x = s.x ∧ u.y = s.y ∧ u.sp = s.sp ∧ u.pc = ret ∧ u.p = s.p := by
  refine ⟨_, exec_rti _, by simp, by simp, by simp, by simp, ?pc, ?p⟩
  case pc =>
    rw [State.charge_pc]
    exact leaveHandler_pc_of_enterHandler (brk := brk) (vector := vector) (s := s) (by simp) (by simp)
  case p =>
    rw [State.charge_p, leaveHandler_p_of_enterHandler (ret := ret) (brk := brk) (vector := vector) (s := s)]
    all_goals simp

/-- Settles O53: each of the three enters the handler from a state with the registers and flags of `s`; the two services
push PC, BRK pushes PC + 2. -/
theorem interruptThenRtiRestores : Obligations.InterruptThenRtiRestores := by
  refine fun s => ⟨fun hserviceable => ?service, ?brk⟩
  case service =>
    obtain ⟨vector, nmi, irq, hstep⟩ := step_of_serviceable hserviceable
    obtain ⟨u, hrti, hu⟩ :=
      exec_rti_of_enterHandler s.pc false vector serviceCycles ((s.clearBus.setNmi nmi).setIrq irq)
    exact ⟨_, u, hstep, hrti, hu⟩
  case brk =>
    obtain ⟨u, hrti, hu⟩ :=
      exec_rti_of_enterHandler (s.pc + 2#16) true Config.irqVector 7 (s.setPc (s.pc + 1#16))
    exact ⟨_, u, exec_brk s, hrti, hu⟩

end Sys2Proof.Machine
end

section
/-! ## What no step changes: PRG ROM and the stored Break bit (O57, O58)

A step issues the accesses of a service, or those of its fetch and its instruction, and storage changes only where a
write among them lands: never in ROM. The frame of an instruction lists no writer of B. -/

namespace Sys2Proof.Machine

/-! ### ROM -/

/-- Where the core can write (20_memory.md R52, R59). -/
theorem lt_of_isWritable_region {a : Word} (h : (region a).isWritable = true) : a.toNat < 0x8000 := by
  rw [region_eq] at h
  split_ifs at h <;> simp only [Region.isWritable, Bool.false_eq_true] at h <;> omega

/-- No write by the core lands on a byte of ROM (20_memory.md R53). -/
theorem canon_ne_of_isWritable {a b : Word} (ha : (region a).isWritable = true) (hb : 0x8000 ≤ b.toNat) :
    canon b ≠ canon a := by
  have hlow := lt_of_isWritable_region ha
  rw [canon_high (by omega)]
  rintro rfl
  rw [toNat_canon] at hb
  split_ifs at hb <;> omega

/-- Accesses by the core leave ROM as it was. -/
theorem Issues.stored_rom {ks : List (Bool × Word)} {s t : State} (h : Issues ks s t) {b : Word}
    (hb : 0x8000 ≤ b.toNat) : t.stored b = s.stored b := by
  obtain ⟨-, hmem⟩ := h
  exact hmem b fun a _ ha => canon_ne_of_isWritable ha hb

/-- A step does nothing to memory but issue accesses: those of a service, or those of the fetch and the instruction
(40_step_and_addressing.md R120). -/
theorem step_issues {s t : State} (h : step s = .next t) : ∃ ks, Issues ks s.clearBus t := by
  rcases step_cases h with ⟨-, rfl⟩ | ⟨-, -, rfl⟩ | ⟨-, -, h⟩
  · have latch : Issues [] s.clearBus (s.clearBus.setNmi false) := .nil rfl rfl
    have entry := latch.append (enterHandler_issues s.pc false Config.nmiVector _)
    exact ⟨_, entry.congr rfl rfl⟩
  · have latch : Issues [] s.clearBus (s.clearBus.setIrq false) := .nil rfl rfl
    have entry := latch.append (enterHandler_issues s.pc false Config.irqVector _)
    exact ⟨_, entry.congr rfl rfl⟩
  · have fetching : Issues _ s.clearBus (fetch s.clearBus).2 := fetchAt_issues s.clearBus.pc s.clearBus
    exact ⟨_, fetching.append ((exec_means _ _).issues h)⟩

/-- Settles O57: the accesses of a step leave ROM as it was. -/
theorem stepNeverChangesRom : Obligations.StepNeverChangesRom := by
  intro s t b h hb
  obtain ⟨ks, haccesses⟩ := step_issues h
  exact haccesses.stored_rom hb

/-! ### The stored Break bit -/

/-- No instruction writes the stored B (10_state.md R14, R17). -/
theorem exec_break {i : Instr} {s t : State} (h : exec i s = .next t) : t.p.b = s.p.b := by
  obtain ⟨-, -, -, -, -, flags, -, -⟩ := exec_writesOnlyListed h
  exact flags .B List.not_mem_nil

/-- A service sets I and leaves every other flag (60_exceptions.md R256). -/
theorem step_p_of_serviceable {s t : State} (hserviceable : s.nmiPending = true ∨ (s.irqPending = true ∧ s.p.i = false))
    (h : step s = .next t) : t.p = { s.p with i := true } := by
  obtain ⟨vector, nmi, irq, hstep⟩ := step_of_serviceable hserviceable
  rw [← Host.Outcome.next.inj (hstep.symm.trans h)]
  simp

/-- Settles O58: a service writes I alone, and no instruction writes B. -/
theorem stepNeverChangesStoredBreak : Obligations.StepNeverChangesStoredBreak := by
  intro s t h
  refine ⟨?stored, fun hserviceable => by rw [step_p_of_serviceable hserviceable h]⟩
  case stored =>
    rcases step_cases h with ⟨hnmi, -⟩ | ⟨-, hirq, -⟩ | ⟨-, -, h⟩
    · rw [step_p_of_serviceable (.inl hnmi) h]
    · rw [step_p_of_serviceable (.inr ((irqServiceable_iff s).1 hirq)) h]
    · simpa using exec_break h

end Sys2Proof.Machine
end

section
/-! ## Handlers, PHP, PLP, and the gate of I (O40, O41, O42, O44, O52)

The entry to a handler and the return from one are each said once, as their accesses in the state before them, wherever
PC has moved. BRK and both services are the entry, RTI is the return. -/

namespace Sys2Proof.Machine

open Claims

/-! ### The pushed and the pulled status -/

/-- Bit 4 set is the Break of PHP and BRK (10_state.md R18). -/
theorem Status.pack_true (p : Status) : p.pack true = p.asByte ||| 0x30#8 := by
  rcases p with ⟨n, v, b, d, i, z, c⟩
  simp only [Status.asByte, Status.pack]
  decide +revert

/-- Bit 4 clear is the Break of NMI and IRQ (10_state.md R18). -/
theorem Status.pack_false (p : Status) : p.pack false = p.asByte &&& 0xEF#8 := by
  rcases p with ⟨n, v, b, d, i, z, c⟩
  simp only [Status.asByte, Status.pack]
  decide +revert

/-- Unpacking loads every flag but B (10_state.md R19, R20). -/
theorem Status.unpack_eq_loadByte (p : Status) (v : Byte) : p.unpack v = { p.loadByte v with b := p.b } := rfl

/-! ### PHP and PLP -/

theorem exec_php (s : State) : exec .php s = .next ((pushP (s.setPc (s.pc + 1#16))).charge 3) := rfl

theorem exec_plp (s : State) : exec .plp s = .next ((pullP (s.setPc (s.pc + 1#16))).charge 4) := rfl

/-- Settles O40: the push and the pull do not see that PC has moved on. -/
theorem phpPushesPPlpPullsP : Obligations.PhpPushesPPlpPullsP := by
  refine fun s => ⟨?_, ?_⟩
  · rw [exec_php, pushP, push_eq, State.setPc_sp, State.setPc_p, Status.pack_true, memWrite_setPc]
    simp [State.setPc, State.setSp, State.charge]
  · intro r
    rw [exec_plp, pullP, pull_eq, State.setPc_sp, memRead_setPc]
    simp [State.setPc, State.setSp, State.setP, State.charge, Status.unpack_eq_loadByte, r]

/-! ### The entry to a handler -/

/-- The state after the entry to a handler, from the state `w` with the frame pushed: SP, I and PC are written after the
two vector reads (60_exceptions.md R256). -/
def entered (vector : Word) (s w : State) : State :=
  let lo := memRead vector w
  let hi := memRead (vector + 1#16) lo.2
  { hi.2 with sp := s.sp - 3#8, p := { s.p with i := true }, pc := mkWord hi.1 lo.1 }

theorem memWrite_setP (addr : Word) (v : Byte) (p : Status) (s : State) :
    memWrite addr v (s.setP p) = (memWrite addr v s).setP p := by
  unfold memWrite State.place
  cases (region addr).isWritable <;> cases (region addr).isStorage <;> rfl

theorem memRead_setP (addr : Word) (p : Status) (s : State) :
    memRead addr (s.setP p) = ((memRead addr s).1, (memRead addr s).2.setP p) := by
  unfold memRead
  split <;> rfl

theorem write3_setPc (v1 v2 v3 : Byte) (pc : Word) (s : State) :
    write3 v1 v2 v3 (s.setPc pc) = (write3 v1 v2 v3 s).setPc pc := by
  simp only [write3, memWrite_setPc, State.setPc_sp]

/-- The five accesses of the entry to a handler: three pushes, high byte first, then the two vector bytes. -/
theorem enterHandler_eq (ret : Word) (brk : Bool) (vector : Word) (s : State) :
    enterHandler ret brk vector s = entered vector s (write3 (hiByte ret) (loByte ret) (s.p.pack brk) s) := by
  simp only [enterHandler, pushWord_eq, push_eq, read16, readPair, memWrite_setSp, memRead_setSp, memRead_setP,
    State.setSp_sp, BitVec.sub_sub, memWrite_p, State.setSp_p]
  rfl

/-- The entry overwrites PC, so it does not see that PC has moved on. -/
theorem enterHandler_setPc (ret : Word) (brk : Bool) (vector pc : Word) (s : State) :
    enterHandler ret brk vector (s.setPc pc) = enterHandler ret brk vector s := by
  simp only [enterHandler_eq, entered, write3_setPc, memRead_setPc]
  rfl

@[simp] theorem write3_cycles (v1 v2 v3 : Byte) (s : State) : (write3 v1 v2 v3 s).cycles = s.cycles := by
  simp [write3]

/-- The entry with its cycles, in the terms of the statements. -/
theorem enterHandler_charge_eq (ret : Word) (brk : Bool) (vector : Word) (n : Nat) (s : State) :
    let w := write3 (BitVec.ofNat 8 (ret.toNat / 256)) (BitVec.ofNat 8 ret.toNat) (s.p.pack brk) s
    let lo := memRead vector w
    let hi := memRead (vector + 1#16) lo.2
    (enterHandler ret brk vector s).charge n
      = { hi.2 with
          sp := s.sp - 3#8, p := { s.p with i := true }, pc := hi.1 ++ lo.1, cycles := s.cycles + n } := by
  simp [enterHandler_eq, hiByte_eq_ofNat, loByte_eq_ofNat, entered, State.charge, mkWord]

/-- Settles O41: BRK enters its handler with Break set, to return two past its own byte. -/
theorem brkEntersTheHandler : Obligations.BrkEntersTheHandler := by
  intro s ret w lo hi
  rw [exec_brk, enterHandler_setPc, enterHandler_charge_eq, Status.pack_true]
  rfl

/-- Settles O52: a service enters its handler with Break clear, to return to PC, with its latch cleared. -/
theorem interruptServiceStep : Obligations.InterruptServiceStep := by
  refine fun s => ⟨fun hnmi => ?nmi, fun hnmi hpending hi => ?irq⟩
  case nmi =>
    intro w lo hi
    rw [step_of_nmi hnmi, serviceNmi, enterHandler_charge_eq, Status.pack_false]
    rfl
  case irq =>
    intro w lo hi'
    rw [step_of_irq hnmi ((irqServiceable_iff s).2 ⟨hpending, hi⟩), serviceIrq, enterHandler_charge_eq,
      Status.pack_false]
    rfl

/-! ### The return from a handler -/

/-- The three accesses of the return from a handler: the status, then PC, low byte first (46_system.md R232). -/
theorem leaveHandler_eq (s : State) :
    let st := memRead (slot (s.sp + 1#8)) s
    let lo := memRead (slot (s.sp + 2#8)) st.2
    let hi := memRead (slot (s.sp + 3#8)) lo.2
    leaveHandler s = { hi.2 with sp := s.sp + 3#8, p := s.p.unpack st.1, pc := mkWord hi.1 lo.1 } := by
  have hlo : s.sp + 1#8 + 1#8 = s.sp + 2#8 := BitVec.add_assoc _ _ _
  have hhi : s.sp + 1#8 + 2#8 = s.sp + 3#8 := BitVec.add_assoc _ _ _
  simp only [leaveHandler, pull_eq, pullWord_eq, memRead_setP, memRead_setSp, State.setP_sp, State.setSp_sp,
    State.setSp_p, memRead_p, hlo, hhi]
  simp only [State.setSp, State.setP, State.setPc]

/-- The return overwrites PC, so it does not see that PC has moved on. -/
theorem leaveHandler_setPc (pc : Word) (s : State) : leaveHandler (s.setPc pc) = leaveHandler s := by
  simp only [leaveHandler_eq, memRead_setPc]
  rfl

/-- Settles O42: RTI is the return from a handler. -/
theorem rtiPullsStatusAndPc : Obligations.RtiPullsStatusAndPc := by
  intro s st lo hi
  rw [exec_rti, leaveHandler_setPc, leaveHandler_eq, Status.unpack_eq_loadByte]
  simp [State.charge, mkWord, st, lo, hi]

/-! ### The gate of I -/

/-- Settles O44: both are one update of P; the IRQ is let through after CLI alone. -/
theorem cliAndSeiGateTheNextBoundary : Obligations.CliAndSeiGateTheNextBoundary := by
  intro s cli sei
  refine ⟨impliedOp_setP (fun p => { p with i := false }) s, impliedOp_setP (fun p => { p with i := true }) s,
    fun hnmi hirq => ⟨?cli, ?sei⟩⟩
  case cli => exact step_of_irq hnmi ((irqServiceable_iff cli).2 ⟨hirq, rfl⟩)
  case sei => exact step_of_not_serviced hnmi (by simp [irqServiceable, sei, afterRegister])

end Sys2Proof.Machine
end

section
/-! ## What an operation never sees (O22, O60)

An update of the state is `Unread` where no access to memory and no address depends on what it writes. An instruction
whose operation does not depend on it either runs alike before and after it, whatever its operand. The decimal flag is
such an update for ADC and SBC, the charge of cycles for every instruction. -/

namespace Sys2Proof.Machine

open Claims

/-! ### Updates that no access sees -/

/-- The update `g` is seen by no access to memory and by no address: it leaves PC and the index registers, and it may
as well be made after an access, after a jump and after the charge of cycles. -/
structure Unread (g : State → State) : Prop where
  x : ∀ s, (g s).x = s.x
  y : ∀ s, (g s).y = s.y
  pc : ∀ s, (g s).pc = s.pc
  setPc : ∀ w s, (g s).setPc w = g (s.setPc w)
  charge : ∀ n s, (g s).charge n = g (s.charge n)
  memRead : ∀ a s, memRead a (g s) = ((memRead a s).1, g (memRead a s).2)
  memWrite : ∀ a v s, memWrite a v (g s) = g (memWrite a v s)

theorem memRead_charge (a : Word) (n : Nat) (s : State) :
    memRead a (s.charge n) = ((memRead a s).1, (memRead a s).2.charge n) := by
  unfold memRead
  split <;> rfl

theorem memWrite_charge (a : Word) (v : Byte) (n : Nat) (s : State) :
    memWrite a v (s.charge n) = (memWrite a v s).charge n := by
  unfold memWrite State.place
  cases (region a).isWritable <;> cases (region a).isStorage <;> rfl

theorem State.charge_charge (s : State) (m n : Nat) : (s.charge m).charge n = s.charge (m + n) := by
  simp [State.charge, Nat.add_assoc]

theorem unread_charge (n : Nat) : Unread (fun s => s.charge n) where
  x _ := rfl
  y _ := rfl
  pc _ := rfl
  setPc _ _ := rfl
  charge k s := by rw [State.charge_charge, State.charge_charge, Nat.add_comm]
  memRead a s := memRead_charge a n s
  memWrite a v s := memWrite_charge a v n s

/-- The update of P that writes D alone. -/
def State.setDecimal (s : State) (d : Bool) : State := s.setP { s.p with d := d }

theorem unread_setDecimal (d : Bool) : Unread (fun s => s.setDecimal d) where
  x _ := rfl
  y _ := rfl
  pc _ := rfl
  setPc _ _ := rfl
  charge _ _ := rfl
  memRead a s := by simp [State.setDecimal, memRead_setP]
  memWrite a v s := by simp [State.setDecimal, memWrite_setP]

section
variable {g : State → State} (hg : Unread g)
include hg

theorem Unread.advance (n : Nat) (s : State) : (g s).advance n = g (s.advance n) := by
  rw [State.advance, hg.setPc, hg.pc, State.advance]

theorem Unread.readPair (lo hi : Word) (s : State) :
    readPair lo hi (g s) = ((readPair lo hi s).1, g (readPair lo hi s).2) := by
  simp only [Machine.readPair, hg.memRead]

theorem Unread.resolveAddr (m : AddrMode) (s : State) :
    resolveAddr m (g s) = { resolveAddr m s with st := g (resolveAddr m s).st } := by
  cases m with
  | zp | abs => rfl
  | zpx | zpy | abx | aby => simp only [Machine.resolveAddr, indexed, hg.x, hg.y]
  | ind | izx | izy => simp only [Machine.resolveAddr, readZeroPagePointer, indexed, hg.readPair, hg.x, hg.y]

theorem Unread.loadSource (src : Source) (s : State) :
    loadSource src (g s) = { loadSource src s with st := g (loadSource src s).st } := by
  cases src with
  | imm => rfl
  | mem m => simp only [Machine.loadSource, hg.resolveAddr, hg.memRead]

end

/-! ### Operations that do not depend on an update -/

/-- The operation does the same before and after the update `g`, wherever it is run. -/
def Operation.CommutesWith (g : State → State) : Operation → Prop
  | .load f => ∀ v s, f v (g s) = g (f v s)
  | .store r => ∀ s, r (g s) = r s
  | .modify f => ∀ pl s, modifyPlace f pl (g s) = g (modifyPlace f pl s)
  | .implied f => ∀ s, f (g s) = g (f s)
  | .branch cond => ∀ s, cond (g s).p = cond s.p
  | .call => ∀ w s, pushWord w (g s) = g (pushWord w s)
  | .jump | .stop => True

/-- A form names one source operand. -/
theorem source_eq_of_form_eq {a b : Source} (h : a.form = b.form) : a = b :=
  match a, b, h with
  | .imm _, .imm _, rfl => rfl
  | .mem _, .mem _, rfl => rfl

/-- A form names one place. -/
theorem place_eq_of_form_eq {a b : Place} (h : a.form = b.form) : a = b :=
  match a, b, h with
  | .acc, .acc, _ => rfl
  | .mem _, .mem _, rfl => rfl

/-- The outcome that `Means` gives is the only one: the mnemonic fixes the operation, the form its operand. -/
theorem Means.unique {i : Instr} {s : State} {r r' : StepResult} (h : Means i s r) (h' : Means i s r') : r = r' := by
  cases h with
  | load hop hform =>
    cases h' with
    | load hop' hform' =>
      obtain rfl := Operation.load.inj (hop.symm.trans hop')
      obtain rfl := source_eq_of_form_eq (hform.symm.trans hform')
      rfl
    | _ hop' => cases hop.symm.trans hop'
  | store hop hform =>
    cases h' with
    | store hop' hform' =>
      obtain rfl := Operation.store.inj (hop.symm.trans hop')
      obtain rfl := Form.mem.inj (hform.symm.trans hform')
      rfl
    | _ hop' => cases hop.symm.trans hop'
  | modify hop hform =>
    cases h' with
    | modify hop' hform' =>
      obtain rfl := Operation.modify.inj (hop.symm.trans hop')
      obtain rfl := place_eq_of_form_eq (hform.symm.trans hform')
      rfl
    | _ hop' => cases hop.symm.trans hop'
  | implied hop =>
    cases h' with
    | implied hop' => rw [Operation.implied.inj (hop.symm.trans hop')]
    | _ hop' => cases hop.symm.trans hop'
  | branch hop hform =>
    cases h' with
    | branch hop' hform' =>
      obtain rfl := Operation.branch.inj (hop.symm.trans hop')
      obtain rfl := Form.rel.inj (hform.symm.trans hform')
      rfl
    | _ hop' => cases hop.symm.trans hop'
  | jump hop hform =>
    cases h' with
    | jump _ hform' => rw [Form.mem.inj (hform.symm.trans hform')]
    | _ hop' => cases hop.symm.trans hop'
  | call hop hform =>
    cases h' with
    | call _ hform' => rw [Form.mem.inj (hform.symm.trans hform')]
    | _ hop' => cases hop.symm.trans hop'
  | stop hop hform =>
    cases h' with
    | stop _ hform' => rw [Form.ill.inj (hform.symm.trans hform')]
    | _ hop' => cases hop.symm.trans hop'

/-- Where the operation does not depend on an unread update, the rest of the instruction does not either. -/
theorem Means.unread {g : State → State} (hg : Unread g) {i : Instr} {s : State} {r : StepResult}
    (means : Means i s r) (hcomm : (operation i.mnemonic).CommutesWith g) : Means i (g s) (mapNext g r) := by
  cases means with
  | @load f src hop hform =>
    rw [hop] at hcomm
    have hrun : readOp f src (baseCycles i) (markedPlus i) (g s)
        = mapNext g (readOp f src (baseCycles i) (markedPlus i) s) := by
      simp only [readOp, hg.advance, hg.loadSource, hcomm _ _, hg.charge, mapNext]
    exact hrun ▸ .load hop hform
  | @store v m hop hform =>
    rw [hop] at hcomm
    have hrun : storeOp (v (g s)) m (baseCycles i) (g s) = mapNext g (storeOp (v s) m (baseCycles i) s) := by
      simp only [storeOp, hg.advance, hg.resolveAddr, hg.memWrite, hcomm _, hg.charge, mapNext]
    exact hrun ▸ .store hop hform
  | @modify f pl hop hform =>
    rw [hop] at hcomm
    have hrun : modifyOp f pl (baseCycles i) (g s) = mapNext g (modifyOp f pl (baseCycles i) s) := by
      simp only [modifyOp, hg.advance, hcomm _ _, hg.charge, mapNext]
    exact hrun ▸ .modify hop hform
  | @implied f hop hform =>
    rw [hop] at hcomm
    have hrun : impliedOp f (baseCycles i) (g s) = mapNext g (impliedOp f (baseCycles i) s) := by
      simp only [impliedOp, hg.advance, hcomm _, hg.charge, mapNext]
    exact hrun ▸ .implied hop hform
  | @branch cond off hop hform =>
    rw [hop] at hcomm
    have hrun : branchOp (cond (g s).p) off (baseCycles i) (g s)
        = mapNext g (branchOp (cond s.p) off (baseCycles i) s) := by
      simp only [branchOp, hcomm _, hg.advance, hg.pc, hg.setPc, hg.charge]
      cases cond s.p <;> rfl
    exact hrun ▸ .branch hop hform
  | @jump m hop hform =>
    have hrun : jumpOp m (baseCycles i) (g s) = mapNext g (jumpOp m (baseCycles i) s) := by
      simp only [jumpOp, hg.advance, hg.resolveAddr, hg.setPc, hg.charge, mapNext]
    exact hrun ▸ .jump hop hform
  | @call m hop hform =>
    rw [hop] at hcomm
    have hrun : callOp m (baseCycles i) (g s) = mapNext g (callOp m (baseCycles i) s) := by
      simp only [callOp, hg.advance, hg.resolveAddr, hg.pc, hcomm _ _, hg.setPc, hg.charge, mapNext]
    exact hrun ▸ .call hop hform
  | stop hop hform => exact .stop hop hform

/-- An instruction runs alike before and after an unread update on which its operation does not depend. -/
theorem exec_unread {g : State → State} (hg : Unread g) {i : Instr} (hcomm : (operation i.mnemonic).CommutesWith g)
    (s : State) : exec i (g s) = mapNext g (exec i s) :=
  (exec_means i (g s)).unique ((exec_means i s).unread hg hcomm)

/-! ### The decimal flag -/

/-- Settles O22: the adder takes C alone from P (41_arithmetic.md R153). -/
theorem addAndSubtractIgnoreDecimal : Obligations.AddAndSubtractIgnoreDecimal := by
  intro i s d h
  refine exec_unread (unread_setDecimal d) ?_ s
  rcases h with h | h
  · rw [h]; exact fun _ _ => rfl
  · rw [h]; exact fun _ _ => rfl

/-! ### The cycle counter and the record -/

theorem modifyPlace_charge (f : Modify) (pl : Place) (n : Nat) (s : State) :
    modifyPlace f pl (s.charge n) = (modifyPlace f pl s).charge n := by
  cases pl with
  | acc => rfl
  | mem m =>
    simp only [modifyPlace, (unread_charge n).resolveAddr, memRead_charge, memWrite_charge, State.charge_p]
    rfl

theorem push_charge (v : Byte) (n : Nat) (s : State) : push v (s.charge n) = (push v s).charge n := by
  rw [push, State.charge_sp, memWrite_charge]
  rfl

theorem pull_charge (n : Nat) (s : State) : pull (s.charge n) = ((pull s).1, (pull s).2.charge n) :=
  memRead_charge (stackAddr (s.sp + 1#8)) n (s.setSp (s.sp + 1#8))

theorem pushWord_charge (w : Word) (n : Nat) (s : State) : pushWord w (s.charge n) = (pushWord w s).charge n := by
  rw [pushWord, push_charge, push_charge, pushWord]

theorem pullWord_charge (n : Nat) (s : State) :
    pullWord (s.charge n) = ((pullWord s).1, (pullWord s).2.charge n) := by
  simp only [pullWord, pull_charge]

theorem enterHandler_charge (ret : Word) (brk : Bool) (vector : Word) (n : Nat) (s : State) :
    enterHandler ret brk vector (s.charge n) = (enterHandler ret brk vector s).charge n := by
  have hi : ∀ t : State, (t.charge n).setP { t.p with i := true } = (t.setP { t.p with i := true }).charge n :=
    fun _ => rfl
  simp only [enterHandler, pushWord_charge, push_charge, State.charge_p, hi, read16, (unread_charge n).readPair,
    (unread_charge n).setPc]

theorem leaveHandler_charge (n : Nat) (s : State) : leaveHandler (s.charge n) = (leaveHandler s).charge n := by
  have hp : ∀ (t : State) (p : Status), (t.charge n).setP p = (t.setP p).charge n := fun _ _ => rfl
  simp only [leaveHandler, pull_charge, State.charge_p, hp, pullWord_charge, (unread_charge n).setPc]

/-- No operation depends on the cycle counter. -/
theorem operation_commutesWith_charge (mn : Mnemonic) (n : Nat) :
    (operation mn).CommutesWith (fun s => s.charge n) := by
  cases mn with
  | adc | sbc | cmp | cpx | cpy | and | ora | eor | bit | lda | ldx | ldy => exact fun _ _ => rfl
  | sta | stx | sty => exact fun _ => rfl
  | inc | dec | asl | lsr | rol | ror => exact fun pl s => modifyPlace_charge _ pl n s
  | inx | iny | dex | dey | tax | tay | txa | tya | tsx | txs | nop | clc | sec | cli | sei | cld | sed | clv =>
    exact fun _ => rfl
  | pha | php => exact fun s => push_charge _ n s
  | pla => exact fun s => by simp only [pullA, pull_charge]; rfl
  | plp => exact fun s => by simp only [pullP, pull_charge]; rfl
  | rts => exact fun s => by simp only [returnFromSubroutine, pullWord_charge]; rfl
  | brk => exact fun s => enterHandler_charge _ true Config.irqVector n s
  | rti => exact fun s => leaveHandler_charge n s
  | bcc | bcs | beq | bne | bmi | bpl | bvc | bvs => exact fun _ => rfl
  | jsr => exact fun w s => pushWord_charge w n s
  | jmp | ill => trivial

theorem exec_charge (i : Instr) (n : Nat) (s : State) :
    exec i (s.charge n) = mapNext (fun t => t.charge n) (exec i s) :=
  exec_unread (unread_charge n) (operation_commutesWith_charge i.mnemonic n) s

theorem fetch_charge (n : Nat) (s : State) : fetch (s.charge n) = ((fetch s).1, (fetch s).2.charge n) := by
  simp only [fetch, fetchAt, memRead_charge, State.charge_pc]
  split <;> rfl

theorem serviceNmi_charge (n : Nat) (s : State) : serviceNmi (s.charge n) = (serviceNmi s).charge n := by
  have latch : (s.charge n).setNmi false = (s.setNmi false).charge n := rfl
  rw [serviceNmi, latch, enterHandler_charge, (unread_charge n).charge, State.charge_pc, serviceNmi]

theorem serviceIrq_charge (n : Nat) (s : State) : serviceIrq (s.charge n) = (serviceIrq s).charge n := by
  have latch : (s.charge n).setIrq false = (s.setIrq false).charge n := rfl
  rw [serviceIrq, latch, enterHandler_charge, (unread_charge n).charge, State.charge_pc, serviceIrq]

/-- A step does not depend on the cycle counter: cycles charged before it may as well be charged after it. -/
theorem step_charge (n : Nat) (s : State) : step (s.charge n) = mapNext (fun t => t.charge n) (step s) := by
  have hclear : (s.charge n).clearBus = s.clearBus.charge n := rfl
  cases hnmi : s.nmiPending with
  | true =>
    rw [step_of_nmi hnmi, step_of_nmi (s := s.charge n) hnmi, hclear, serviceNmi_charge]
    rfl
  | false =>
    cases hirq : irqServiceable s with
    | true =>
      rw [step_of_irq hnmi hirq, step_of_irq (s := s.charge n) hnmi hirq, hclear, serviceIrq_charge]
      rfl
    | false =>
      rw [step_of_not_serviced hnmi hirq, step_of_not_serviced (s := s.charge n) hnmi hirq, hclear, fetch_charge,
        exec_charge]

/-- A step starts the record afresh (40_step_and_addressing.md R120). -/
theorem step_clearBus (s : State) : step s.clearBus = step s := rfl

/-- But for its cycles, a step is that of the state with the counter blanked and the record cleared. -/
theorem mapNext_withoutCycles_step (s : State) :
    mapNext withoutCycles (step s) = mapNext withoutCycles (step (withoutCycles s).clearBus) := by
  have hcharged : s.clearBus = (withoutCycles s).clearBus.charge s.cycles := by
    simp [State.clearBus, withoutCycles, State.charge]
  rw [← step_clearBus, hcharged, step_charge]
  cases step (withoutCycles s).clearBus <;> rfl

/-- Settles O60: the two states are the same with the counter blanked and the record cleared. -/
theorem cyclesAndRecordAreNeverRead : Obligations.CyclesAndRecordAreNeverRead := by
  intro s n log
  rw [mapNext_withoutCycles_step, mapNext_withoutCycles_step s]
  rfl

end Sys2Proof.Machine
end

section
/-! ## Pointers, the status byte, the table, stub reads and reset (O2, O6, O10, O11, O14, O18, O32, O45) -/

namespace Sys2Proof.Machine

open Claims

/-! ### The pulled status -/

/-- The bits that UnpackP loads are those of the mask $CF (10_state.md R19). -/
theorem getLsbD_eq_of_and_0xCF_eq {v w : Byte} (h : v &&& 0xCF#8 = w &&& 0xCF#8) {k : Nat}
    (hk : (0xCF#8 : Byte).getLsbD k = true) : v.getLsbD k = w.getLsbD k := by
  have hbit := congrArg (BitVec.getLsbD · k) h
  simpa only [BitVec.getLsbD_and, hk, Bool.and_true] using hbit

/-- Settles O2: UnpackP looks at six bits, all of them in the mask. -/
theorem unpackKeepsBreak : Obligations.UnpackKeepsBreak := by
  refine fun p v w => ⟨rfl, fun h => ?_⟩
  have hbit {k : Nat} (hk : (0xCF#8 : Byte).getLsbD k = true) := getLsbD_eq_of_and_0xCF_eq h hk
  rw [Status.unpack, Status.unpack, hbit (k := 7) rfl, hbit (k := 6) rfl, hbit (k := 3) rfl, hbit (k := 2) rfl,
    hbit (k := 1) rfl, hbit (k := 0) rfl]

/-! ### The unimplemented opcodes -/

/-- Settles O14: the map has an unimplemented cell exactly at the opcodes of R77. -/
theorem unimplementedOpcodesAreTheOthers : Obligations.UnimplementedOpcodesAreTheOthers := by
  refine ⟨fun b0 b1 b2 => ⟨⟨?listed, ?decoded⟩, fun h => decode_of_unimplemented h b1 b2⟩, by decide, by decide⟩
  case listed =>
    contrapose
    exact fun h => mnemonic_decode_ne_ill h b1 b2
  case decoded =>
    intro h
    rw [decode_of_unimplemented h]
    rfl

/-- Settles O45: the meaning of ILL is the fault (46_system.md R241). -/
theorem illFaultsWithItsOpcode : Obligations.IllFaultsWithItsOpcode := fun _ _ => rfl

/-! ### Pointers -/

/-- Both bytes of a zero-page pointer, said on numbers (40_step_and_addressing.md R116, R117). -/
theorem readZeroPagePointer_eq (p : Byte) (s : State) :
    readZeroPagePointer p s = readPair (BitVec.ofNat 16 p.toNat) (BitVec.ofNat 16 ((p.toNat + 1) % 256)) s := by
  rw [readZeroPagePointer, zext16_add, zext16_eq_ofNat]
  rfl

/-- Settles O18: both modes read a zero-page pointer; IZY then indexes what it holds. -/
theorem zeroPagePointersStayInPageZero : Obligations.ZeroPagePointersStayInPageZero := by
  refine fun s z => ⟨?izx, ?izy⟩
  case izx =>
    rw [resolveAddr, readZeroPagePointer_eq, BitVec.toNat_add]
    rfl
  case izy =>
    rw [resolveAddr, readZeroPagePointer_eq, indexed_eq]
    rfl

/-- The address after `p` in the page of `p`, said on numbers (40_step_and_addressing.md R115). -/
theorem mkWord_hiByte_loByte_add_one (p : Word) :
    mkWord (hiByte p) (loByte p + 1#8) = BitVec.ofNat 16 (p.toNat / 256 * 256 + (p.toNat + 1) % 256) := by
  have hp := p.isLt
  apply BitVec.eq_of_toNat_eq
  rw [toNat_mkWord, toNat_hiByte, BitVec.toNat_add, toNat_loByte, BitVec.toNat_ofNat, BitVec.toNat_ofNat]
  omega

/-- Away from the end of its page, that address is the next one (20_memory.md R44). -/
theorem next_in_page_eq_add_one {p : Word} (h : p.toNat % 256 ≠ 255) :
    BitVec.ofNat 16 (p.toNat / 256 * 256 + (p.toNat + 1) % 256) = p + 1#16 := by
  have hp := p.isLt
  apply BitVec.eq_of_toNat_eq
  rw [BitVec.toNat_ofNat, BitVec.toNat_add, BitVec.toNat_ofNat]
  omega

theorem exec_jmpInd (p : Word) (s : State) :
    let target := readPair p (mkWord (hiByte p) (loByte p + 1#8)) (s.setPc (s.pc + 3#16))
    exec (.jmpInd p) s = .next ((target.2.setPc target.1).charge 5) := rfl

/-- Settles O32: the pointer's second byte lies in its own page. -/
theorem jumpIndirectReadsThePointer : Obligations.JumpIndirectReadsThePointer := by
  refine fun s p => ⟨?jump, fun h => ?read16⟩
  case jump =>
    rw [exec_jmpInd, mkWord_hiByte_loByte_add_one, readPair]
    simp [State.charge, State.setPc, mkWord]
  case read16 =>
    rw [next_in_page_eq_add_one h]
    rfl

/-! ### Reads of stub and unmapped addresses -/

/-- A read outside storage, whole (20_memory.md R55 to R57). -/
theorem memRead_unbacked {a : Word} (h : (region a).isStorage = false) (s : State) :
    memRead a s = (Config.draw s.draws, s.takeDraw.record (.read a (Config.draw s.draws))) := by
  simp [memRead, h]

/-- Settles O6: these addresses lie outside storage. -/
theorem unbackedReadIsAFreshDraw : Obligations.UnbackedReadIsAFreshDraw := by
  intro s a b hlo hhi
  have hunbacked : (region a).isStorage = false := by
    rw [← Bool.not_eq_true, isStorage_region_iff]
    omega
  rw [memRead_unbacked hunbacked, memRead_unbacked hunbacked]
  exact ⟨rfl, rfl, rfl, rfl⟩

/-! ### Reset -/

/-- The reset vector lies in ROM. -/
theorem isStorage_resetVector :
    (region Config.resetVector).isStorage = true ∧ (region (Config.resetVector + 1#16)).isStorage = true := by
  decide

/-- Settles O10: both vector bytes are read from storage (70_reset_and_hazards.md R280). -/
theorem resetSequence : Obligations.ResetSequence := by
  obtain ⟨hlo, hhi⟩ := isStorage_resetVector
  refine fun s => ⟨?_, ?_⟩
  · simp only [hostReset, read16, readPair, memRead_storage hlo, memRead_storage hhi]
    rfl
  · simp only [hostReset, State.setPc_p, read16_p]
    decide

/-- Settles O11: `resetSequence` with nothing stored. -/
theorem resetStateIsResetOfEmptyMemory : Obligations.ResetStateIsResetOfEmptyMemory := by
  refine ⟨fun s hmem hdraws => ?_, Memory.wf_nil⟩
  obtain ⟨hreset, -⟩ := resetSequence s
  rw [hreset, storedWord, State.stored, State.stored, hmem, hdraws]
  rfl

end Sys2Proof.Machine
end
